-- ==== Sys2Proof/Word.lean ====
section
/-! DEFINITION. The widths the K1 block's spec computes with, as bit vectors, and byte strings. -/

namespace Sys2Proof

/-- A byte of a buffer or of a byte string (00_scope.md R12). -/
abbrev Byte := BitVec 8

/-- A 32-bit register, command word or SHA-256 word. -/
abbrev Word := BitVec 32

/-- A 256-bit data register or coordinate (R31 to R33). -/
abbrev Wide := BitVec 256

/-- `bytes`, a finite sequence of 8-bit values; the empty list is ε (R12). -/
abbrev Bytes := List Byte

end Sys2Proof
end

