-- ==== Sys2Proof/Machine/Bytes.lean ====
section
/-! DEFINITION. Byte strings and the integers they encode (00_scope.md R12), and the bytes of a register
(20_memory.md R71). -/

namespace Sys2Proof.Machine

/-- `le_k(v)`: the k-byte little-endian encoding, byte 0 the least significant (R12). -/
def leBytes : Nat → Nat → Bytes
  | 0, _ => []
  | k + 1, v => BitVec.ofNat 8 v :: leBytes k (v / 256)

/-- `be_k(v)`: the k-byte big-endian encoding, byte 0 the most significant (R12). -/
def beBytes (k v : Nat) : Bytes := (leBytes k v).reverse

/-- `int_le(s)`, as an unbounded integer (R12). -/
def intLe : Bytes → Nat
  | [] => 0
  | b :: bs => b.toNat + 256 * intLe bs

/-- `int_be(s)`, as an unbounded integer (R12). -/
def intBe (bs : Bytes) : Nat := intLe bs.reverse

/-- Bits `lo+7 : lo` of a register. -/
def byteAt {w : Nat} (v : BitVec w) (lo : Nat) : Byte := (v >>> lo).setWidth 8

/-- The register with bits `lo+7 : lo` replaced by a byte. -/
def setByteAt {w : Nat} (v : BitVec w) (lo : Nat) (b : Byte) : BitVec w :=
  (v &&& ~~~((0xFF#8).setWidth w <<< lo)) ||| (b.setWidth w <<< lo)

/-- Byte k of the 32-byte big-endian view of a 256-bit register: offset +0 holds bits 255:248 (R31, R71). -/
def wideByte (v : Wide) (k : Nat) : Byte := byteAt v (8 * (31 - k))

/-- The 256-bit register with byte k of its big-endian view replaced (R31, R71, R74). -/
def setWideByte (v : Wide) (k : Nat) (b : Byte) : Wide := setByteAt v (8 * (31 - k)) b

/-- Byte k of the 4-byte big-endian view of a 32-bit word: byte 0 is bits 31:24 (R71). -/
def wordByte (v : Word) (k : Nat) : Byte := byteAt v (8 * (3 - k))

/-- The 32-bit word with byte k of its big-endian view replaced (R71). -/
def setWordByte (v : Word) (k : Nat) (b : Byte) : Word := setByteAt v (8 * (3 - k)) b

/-- The word whose bits 31:24 are byte 0 and whose bits 7:0 are byte 3 (R71). -/
def wordOfBytes (b0 b1 b2 b3 : Byte) : Word := b0 ++ b1 ++ b2 ++ b3

end Sys2Proof.Machine
end

