-- ==== Sys2Proof/Machine/Constants.lean ====
section
/-! DEFINITION. The fixed numbers of the spec: the curve constants of 00_scope.md R9 and the limits of R5. -/

namespace Sys2Proof.Machine

/-- p = 2^256 − 2^32 − 977, the field prime (R9). -/
def primeP : Nat := 2 ^ 256 - 2 ^ 32 - 977

/-- n, the group order (R9). -/
def orderN : Nat := 0xFFFFFFFFFFFFFFFFFFFFFFFFFFFFFFFEBAAEDCE6AF48A03BBFD25E8CD0364141

/-- Gx (R9). -/
def genX : Nat := 0x79BE667EF9DCBBAC55A06295CE870B07029BFCDB2DCE28D959F2815B16F81798

/-- Gy (R9). -/
def genY : Nat := 0x483ADA7726A3C4655DA4FBFC0E1108A8FD17B448A68554199C47D08FFB10D4B8

/-- The curve coefficient a (R9). -/
def curveA : Nat := 0

/-- The curve coefficient b (R9). -/
def curveB : Nat := 7

/-- HALF_N = floor(n / 2) (R9). -/
def halfN : Nat := orderN / 2

/-- P14 = (p + 1) / 4, the square-root exponent (R9). -/
def sqrtExponent : Nat := (primeP + 1) / 4

/-- The ID register's constant (00_scope.md R2, 10_state.md R41). -/
def idValue : Word := 0x4B310007

/-- TXBUF's size in bytes (R5, R37). -/
def txBufSize : Nat := 4096

/-- SPKBUF's size in bytes (R5, R38). -/
def spkBufSize : Nat := 1024

/-- The offset of TXBUF[0] (R37). -/
def txBufBase : Nat := 0x1000

/-- The offset of SPKBUF[0] (R38). -/
def spkBufBase : Nat := 0x2000

/-- STACK_MAX (R5). -/
def stackMax : Nat := 1000

/-- ELEM_MAX (R5). -/
def elemMax : Nat := 520

end Sys2Proof.Machine
end

