-- ==== Sys2Proof/Machine/FieldMath.lean ====
section
/-! DEFINITION. Exact arithmetic mod m (00_scope.md R7, R11; 41_field.md R162), for m = p and m = n. -/

namespace Sys2Proof.Machine

/-- (a + b) mod m. -/
def addMod (m a b : Nat) : Nat := (a + b) % m

/-- (a − b) mod m, in [0, m) also where a < b (R11). -/
def subMod (m a b : Nat) : Nat := (a + (m - b % m)) % m

/-- (a · b) mod m, of the exact product (R162). -/
def mulMod (m a b : Nat) : Nat := a * b % m

/-- The loop of R171 from bit `i - 1` of the exponent down to bit 0: square, then multiply where the bit is 1. -/
def powLoop (m a e : Nat) : Nat → Nat → Nat
  | 0, r => r
  | i + 1, r => powLoop m a e i (if e.testBit i then mulMod m (mulMod m r r) a else mulMod m r r)

/-- a^e mod m for a 256-bit exponent, by square-and-multiply from bit 255 with 0^0 = 1 (R171, R179). -/
def powMod (m a e : Nat) : Nat := powLoop m a e 256 1

/-- The inverse a^(m−2) mod m of a nonzero a, m prime (R11, R170, R178). -/
def invMod (m a : Nat) : Nat := powMod m a (m - 2)

/-- The square-root candidate a^((p+1)/4) mod p (R172). -/
def sqrtCandidate (a : Nat) : Nat := powMod primeP a sqrtExponent

end Sys2Proof.Machine
end

