-- ==== Sys2Proof/Machine/CurveMath.lean ====
section
/-! DEFINITION. Points of secp256k1 and their group law (00_scope.md R15, 42_curve.md R201, R203, R206, R211). -/

namespace Sys2Proof.Machine

/-- A point: the infinity element O, or a pair of coordinates (R15). -/
inductive Point where
  | infinity
  | affine (x y : Nat)
deriving DecidableEq, Repr

/-- The generator G (R9). -/
def pointG : Point := .affine genX genY

/-- y² ≡ x³ + 7 (mod p) (R15, R201). -/
def curveEquation (x y : Nat) : Bool := y * y % primeP == (x * x * x + curveB) % primeP

/-- A valid point: O, or a pair of field elements on the curve (R201). -/
def pointValid : Point → Bool
  | .infinity => true
  | .affine x y => decide (x < primeP) && decide (y < primeP) && curveEquation x y

/-- The third point of the line of slope `s` through (x1, y1) and one with abscissa x2, reflected (R203). -/
def chordPoint (s x1 y1 x2 : Nat) : Point :=
  let x3 := subMod primeP (subMod primeP (s * s) x1) x2
  .affine x3 (subMod primeP (s * subMod primeP x1 x3) y1)

/-- The slope of the tangent at (x, y): (3·x² + a) · (2·y)⁻¹ mod p (R203). -/
def tangentSlope (x y : Nat) : Nat :=
  mulMod primeP (3 * (x * x) + curveA) (invMod primeP (mulMod primeP 2 y))

/-- The slope of the chord: (y2 − y1) · (x2 − x1)⁻¹ mod p (R203). -/
def chordSlope (x1 y1 x2 y2 : Nat) : Nat :=
  mulMod primeP (subMod primeP y2 y1) (invMod primeP (subMod primeP x2 x1))

/-- The group law ADD(P1, P2), its cases in the order of R203. -/
def pointAdd : Point → Point → Point
  | .infinity, q => q
  | .affine x1 y1, .infinity => .affine x1 y1
  | .affine x1 y1, .affine x2 y2 =>
    if x1 = x2 ∧ (y1 + y2) % primeP = 0 then .infinity
    else if x1 = x2 ∧ y1 = y2 then chordPoint (tangentSlope x1 y1) x1 y1 x2
    else chordPoint (chordSlope x1 y1 x2 y2) x1 y1 x2

/-- The loop of R206 from bit `i - 1` of the scalar down to bit 0: double, then add Q where the bit is 1. -/
def pointMulLoop (k : Nat) (q : Point) : Nat → Point → Point
  | 0, r => r
  | i + 1, r =>
    pointMulLoop k q i (if k.testBit i then pointAdd (pointAdd r r) q else pointAdd r r)

/-- k·Q for a 256-bit scalar, double-and-add from bit 255 (R206, R211). -/
def pointMul (k : Nat) (q : Point) : Point := pointMulLoop k q 256 .infinity

end Sys2Proof.Machine
end

