-- ==== Sys2Proof/Config.lean ====
section
/-! DEFINITION. What the spec leaves to the platform or to the implementation, as uninterpreted constants:
the open parameters of 00_scope.md R6 and the free values of 93_implementation_defined.md. None has a body
that a proof could see, so a claim that mentions one holds whatever its value. -/

namespace Sys2Proof

/-- R6, D3: `BASE` divided by 16 KiB; the platform decides it (log entry 11). -/
opaque Config.baseIndex : Nat

/-- R6: the physical base address of the MMIO window, 16 KiB aligned. -/
def Config.base : Nat := 0x4000 * Config.baseIndex

/-- R6, D30: `IRQ_LINE`, the host interrupt-controller input the IRQ output drives (log entry 11). -/
opaque Config.irqLine : Nat

/-- R6, D45: `HOST_ORDERING`, whether the host's interconnect keeps the order of its accesses. The rules
assume it does, and so does the model: `State.bus` is in the order of arrival (log entry 11). -/
opaque Config.hostOrdering : Bool

/-- R8, U10: the parameter function `RIPEMD160` off the three inputs whose values 95_test_vectors.md L2.2
pins (log entry 7). -/
opaque Config.ripemd160 : Bytes → Vector Byte 20

/-- R51, U2: the value a host read of command-result state returns while BUSY, one draw a read
(log entry 8). -/
opaque Config.busyRead : Nat → Word

/-- R360, U1: the free values of the data state after the reset input, one draw of the whole data state
a reset (log entry 3). -/
opaque Config.resetB : Nat → Vector Wide 16
/-- As `Config.resetB`, for PX0..PX7. -/
opaque Config.resetPx : Nat → Vector Wide 8
/-- As `Config.resetB`, for PY0..PY7. -/
opaque Config.resetPy : Nat → Vector Wide 8
/-- As `Config.resetB`, for PINF. -/
opaque Config.resetPinf : Nat → Byte
/-- As `Config.resetB`, for SH0..SH7. -/
opaque Config.resetSh : Nat → Vector Word 8
/-- As `Config.resetB`, for SW0..SW15. -/
opaque Config.resetSw : Nat → Vector Word 16
/-- As `Config.resetB`, for the buffer byte at an offset of the window. -/
opaque Config.resetByte : Nat → Nat → Byte

end Sys2Proof
end

