-- ==== Sys2Proof/Syntax.lean ====
section
/-! DEFINITION. The instructions: one constructor per row of spec/opcode_table.json. The first 30 are the command
words of 30_encoding.md R101, with their register fields (a B index is a `Fin 16`, a point index a `Fin 8`, R102).
The other 256 are the script commands of R109 and R110, told by their first byte; a push carries its data bytes. -/

namespace Sys2Proof

/-- A command of the block or a command of a script. Which fields are well formed says `Instr.wf`. -/
inductive Instr where
  /-- NOP, OP 00h, R164: no operation. -/
  | nop
  /-- MOV, OP 01h, R165: B[rd] <- B[ra]. -/
  | mov (rd ra : Fin 16)
  /-- LDK, OP 02h, R166: B[rd] <- KTAB[k]. -/
  | ldk (rd k : Fin 16)
  /-- FADD, OP 10h, R167. -/
  | fadd (rd ra rb : Fin 16)
  /-- FSUB, OP 11h, R168. -/
  | fsub (rd ra rb : Fin 16)
  /-- FMUL, OP 12h, R169. -/
  | fmul (rd ra rb : Fin 16)
  /-- FINV, OP 13h, R170. -/
  | finv (rd ra : Fin 16)
  /-- FPOW, OP 14h, R171. -/
  | fpow (rd ra rb : Fin 16)
  /-- FSQRT, OP 15h, R172. -/
  | fsqrt (rd ra : Fin 16)
  /-- FEQ, OP 16h, R173: compare B[ra] with B[rb]. -/
  | feq (ra rb : Fin 16)
  /-- FRED, OP 17h, R174. -/
  | fred (rd ra : Fin 16)
  /-- NADD, OP 18h, R175. -/
  | nadd (rd ra rb : Fin 16)
  /-- NSUB, OP 19h, R176. -/
  | nsub (rd ra rb : Fin 16)
  /-- NMUL, OP 1Ah, R177. -/
  | nmul (rd ra rb : Fin 16)
  /-- NINV, OP 1Bh, R178. -/
  | ninv (rd ra : Fin 16)
  /-- NPOW, OP 1Ch, R179. -/
  | npow (rd ra rb : Fin 16)
  /-- NEQ, OP 1Eh, R180: compare B[ra] with B[rb]. -/
  | neq (ra rb : Fin 16)
  /-- NRED, OP 1Fh, R181. -/
  | nred (rd ra : Fin 16)
  /-- PADD, OP 20h, R204. -/
  | padd (pd pa pb : Fin 8)
  /-- PDBL, OP 21h, R205. -/
  | pdbl (pd pa : Fin 8)
  /-- PMUL, OP 22h, R206: P[pd] <- B[rb] times P[pa]. -/
  | pmul (pd pa : Fin 8) (rb : Fin 16)
  /-- PLDG, OP 23h, R207. -/
  | pldg (pd : Fin 8)
  /-- PCHK, OP 24h, R208. -/
  | pchk (pa : Fin 8)
  /-- PMOV, OP 25h, R209. -/
  | pmov (pd pa : Fin 8)
  /-- SHAINIT, OP 30h, R132. -/
  | shainit
  /-- SHACOMP, OP 31h, R133. -/
  | shacomp
  /-- ESIGN, OP 40h, R232: r to B[rd], s to B[rc], key e = B[ra], digest z = B[rb]. -/
  | esign (rd rc ra rb : Fin 16)
  /-- EVERIFY, OP 41h, R233: public key P[pd], z = B[ra], r = B[rb], s = B[rc]. -/
  | everify (pd : Fin 8) (ra rb rc : Fin 16)
  /-- SIGHASH, OP 50h, R308: B[rd] <- the digest of input INIDX. -/
  | sighash (rd : Fin 16)
  /-- SCRIPT, OP 51h, R287: evaluate input INIDX against SPKBUF. -/
  | script
  /-- OP_0, R270. -/
  | op0
  /-- PUSHBYTES_1 to PUSHBYTES_75 and OP_PUSHDATA1/2/4, R269. -/
  | pushBytes1 (data : Bytes)
  | pushBytes2 (data : Bytes)
  | pushBytes3 (data : Bytes)
  | pushBytes4 (data : Bytes)
  | pushBytes5 (data : Bytes)
  | pushBytes6 (data : Bytes)
  | pushBytes7 (data : Bytes)
  | pushBytes8 (data : Bytes)
  | pushBytes9 (data : Bytes)
  | pushBytes10 (data : Bytes)
  | pushBytes11 (data : Bytes)
  | pushBytes12 (data : Bytes)
  | pushBytes13 (data : Bytes)
  | pushBytes14 (data : Bytes)
  | pushBytes15 (data : Bytes)
  | pushBytes16 (data : Bytes)
  | pushBytes17 (data : Bytes)
  | pushBytes18 (data : Bytes)
  | pushBytes19 (data : Bytes)
  | pushBytes20 (data : Bytes)
  | pushBytes21 (data : Bytes)
  | pushBytes22 (data : Bytes)
  | pushBytes23 (data : Bytes)
  | pushBytes24 (data : Bytes)
  | pushBytes25 (data : Bytes)
  | pushBytes26 (data : Bytes)
  | pushBytes27 (data : Bytes)
  | pushBytes28 (data : Bytes)
  | pushBytes29 (data : Bytes)
  | pushBytes30 (data : Bytes)
  | pushBytes31 (data : Bytes)
  | pushBytes32 (data : Bytes)
  | pushBytes33 (data : Bytes)
  | pushBytes34 (data : Bytes)
  | pushBytes35 (data : Bytes)
  | pushBytes36 (data : Bytes)
  | pushBytes37 (data : Bytes)
  | pushBytes38 (data : Bytes)
  | pushBytes39 (data : Bytes)
  | pushBytes40 (data : Bytes)
  | pushBytes41 (data : Bytes)
  | pushBytes42 (data : Bytes)
  | pushBytes43 (data : Bytes)
  | pushBytes44 (data : Bytes)
  | pushBytes45 (data : Bytes)
  | pushBytes46 (data : Bytes)
  | pushBytes47 (data : Bytes)
  | pushBytes48 (data : Bytes)
  | pushBytes49 (data : Bytes)
  | pushBytes50 (data : Bytes)
  | pushBytes51 (data : Bytes)
  | pushBytes52 (data : Bytes)
  | pushBytes53 (data : Bytes)
  | pushBytes54 (data : Bytes)
  | pushBytes55 (data : Bytes)
  | pushBytes56 (data : Bytes)
  | pushBytes57 (data : Bytes)
  | pushBytes58 (data : Bytes)
  | pushBytes59 (data : Bytes)
  | pushBytes60 (data : Bytes)
  | pushBytes61 (data : Bytes)
  | pushBytes62 (data : Bytes)
  | pushBytes63 (data : Bytes)
  | pushBytes64 (data : Bytes)
  | pushBytes65 (data : Bytes)
  | pushBytes66 (data : Bytes)
  | pushBytes67 (data : Bytes)
  | pushBytes68 (data : Bytes)
  | pushBytes69 (data : Bytes)
  | pushBytes70 (data : Bytes)
  | pushBytes71 (data : Bytes)
  | pushBytes72 (data : Bytes)
  | pushBytes73 (data : Bytes)
  | pushBytes74 (data : Bytes)
  | pushBytes75 (data : Bytes)
  | opPushData1 (data : Bytes)
  | opPushData2 (data : Bytes)
  | opPushData4 (data : Bytes)
  /-- The bytes outside the supported set, R276, here and below. -/
  | unsupported4F
  | unsupported50
  /-- OP_1 to OP_16, R271. -/
  | op1
  | op2
  | op3
  | op4
  | op5
  | op6
  | op7
  | op8
  | op9
  | op10
  | op11
  | op12
  | op13
  | op14
  | op15
  | op16
  | unsupported61
  | unsupported62
  | unsupported63
  | unsupported64
  | unsupported65
  | unsupported66
  | unsupported67
  | unsupported68
  | unsupported69
  | unsupported6A
  | unsupported6B
  | unsupported6C
  | unsupported6D
  | unsupported6E
  | unsupported6F
  | unsupported70
  | unsupported71
  | unsupported72
  | unsupported73
  | unsupported74
  | unsupported75
  /-- OP_DUP, R272. -/
  | opDup
  | unsupported77
  | unsupported78
  | unsupported79
  | unsupported7A
  | unsupported7B
  | unsupported7C
  | unsupported7D
  | unsupported7E
  | unsupported7F
  | unsupported80
  | unsupported81
  | unsupported82
  | unsupported83
  | unsupported84
  | unsupported85
  | unsupported86
  | unsupported87
  /-- OP_EQUALVERIFY, R274. -/
  | opEqualVerify
  | unsupported89
  | unsupported8A
  | unsupported8B
  | unsupported8C
  | unsupported8D
  | unsupported8E
  | unsupported8F
  | unsupported90
  | unsupported91
  | unsupported92
  | unsupported93
  | unsupported94
  | unsupported95
  | unsupported96
  | unsupported97
  | unsupported98
  | unsupported99
  | unsupported9A
  | unsupported9B
  | unsupported9C
  | unsupported9D
  | unsupported9E
  | unsupported9F
  | unsupportedA0
  | unsupportedA1
  | unsupportedA2
  | unsupportedA3
  | unsupportedA4
  | unsupportedA5
  | unsupportedA6
  | unsupportedA7
  | unsupportedA8
  /-- OP_HASH160, R273. -/
  | opHash160
  | unsupportedAA
  | unsupportedAB
  /-- OP_CHECKSIG, R275. -/
  | opCheckSig
  | unsupportedAD
  | unsupportedAE
  | unsupportedAF
  | unsupportedB0
  | unsupportedB1
  | unsupportedB2
  | unsupportedB3
  | unsupportedB4
  | unsupportedB5
  | unsupportedB6
  | unsupportedB7
  | unsupportedB8
  | unsupportedB9
  | unsupportedBA
  | unsupportedBB
  | unsupportedBC
  | unsupportedBD
  | unsupportedBE
  | unsupportedBF
  | unsupportedC0
  | unsupportedC1
  | unsupportedC2
  | unsupportedC3
  | unsupportedC4
  | unsupportedC5
  | unsupportedC6
  | unsupportedC7
  | unsupportedC8
  | unsupportedC9
  | unsupportedCA
  | unsupportedCB
  | unsupportedCC
  | unsupportedCD
  | unsupportedCE
  | unsupportedCF
  | unsupportedD0
  | unsupportedD1
  | unsupportedD2
  | unsupportedD3
  | unsupportedD4
  | unsupportedD5
  | unsupportedD6
  | unsupportedD7
  | unsupportedD8
  | unsupportedD9
  | unsupportedDA
  | unsupportedDB
  | unsupportedDC
  | unsupportedDD
  | unsupportedDE
  | unsupportedDF
  | unsupportedE0
  | unsupportedE1
  | unsupportedE2
  | unsupportedE3
  | unsupportedE4
  | unsupportedE5
  | unsupportedE6
  | unsupportedE7
  | unsupportedE8
  | unsupportedE9
  | unsupportedEA
  | unsupportedEB
  | unsupportedEC
  | unsupportedED
  | unsupportedEE
  | unsupportedEF
  | unsupportedF0
  | unsupportedF1
  | unsupportedF2
  | unsupportedF3
  | unsupportedF4
  | unsupportedF5
  | unsupportedF6
  | unsupportedF7
  | unsupportedF8
  | unsupportedF9
  | unsupportedFA
  | unsupportedFB
  | unsupportedFC
  | unsupportedFD
  | unsupportedFE
  | unsupportedFF
deriving DecidableEq, Repr

end Sys2Proof
end

