-- ==== Sys2Proof/Machine/State.lean ====
section
/-! DEFINITION. The state of the K1 block as plain data (10_state.md R30, R52), the reasons a step can stop, and the
state right after reset (R53). -/

namespace Sys2Proof.Machine

/-! ## Values within one command -/

/-- The fault codes of 60_exceptions.md R330 but NONE. A fault of the block is a completion, a next state. -/
inductive FaultCode where
  | illegal
  | range
  | invz
  | notCurve
  | key
  | parse
  | index
  | len
deriving DecidableEq, Repr

/-- The reasons a script evaluation ends with (44_script.md R288). -/
inductive Reason where
  | accept
  | falseTop
  | emptyEnd
  | checkSigFalse
  | underflow
  | badOpcode
  | sigParse
  | pubkeyScriptParse
  | equalVerify
  | sighashType
  | badPubkey
  | badDer
  | stackOverflow
  | elemSize
deriving DecidableEq, Repr

/-- A transaction input as parsed (45_tx_sighash.md R302), its fields the bytes of the buffer. -/
structure TxIn where
  prevTx : Bytes
  prevIndex : Bytes
  scriptSig : Bytes
  sequence : Bytes
deriving DecidableEq, Repr

/-- A transaction output as parsed (R303). -/
structure TxOut where
  amount : Bytes
  scriptPubkey : Bytes
deriving DecidableEq, Repr

/-- A parsed transaction (R305). -/
structure Tx where
  version : Bytes
  segwit : Bool
  ins : List TxIn
  outs : List TxOut
  witnesses : List (List Bytes)
  locktime : Bytes
deriving DecidableEq, Repr

/-- The script VM's state within one SCRIPT (44_script.md R263) and the parsed transaction it checks (R52). -/
structure Vm where
  /-- The concatenated program (R262). -/
  prog : List Instr
  /-- The index of the next command in the program. -/
  ip : Nat
  /-- The stack of byte strings; the head is `top`. -/
  stack : List Bytes
  /-- CHKFAIL: an OP_CHECKSIG verified false. -/
  chkfail : Bool
  /-- The parsed transaction. -/
  tx : Tx
deriving DecidableEq, Repr

/-- The HMAC state K and V of an ESIGN in progress (43_ecdsa.md R231). -/
structure Nonce where
  k : Bytes
  v : Bytes
deriving DecidableEq, Repr

/-! ## Control registers and memory -/

/-- The fields of STATUS (R43); its reserved bits read as zero. `busy` is also the engine phase (R39). -/
structure StatusReg where
  busy : Bool
  done : Bool
  err : Bool
  res : Bool
  ecode : Byte
  cmdovr : Bool
  wbusy : Bool
  buserr : Bool
deriving DecidableEq, Repr

/-- The bytes of TXBUF and SPKBUF by window offset (R37, R38): rising offsets, no zero byte listed. -/
abbrev Memory := List Host.Cell

/-- The first offset of the buffers, TXBUF[0] (R37). -/
def bufferStart : Nat := 0x1000

/-- The first offset after the buffers: TXBUF is followed at once by SPKBUF (R37, R38). -/
def bufferEnd : Nat := 0x2400

/-- The canonical form of a memory: offsets strictly rising and inside the buffers, and no entry equal to what an
unlisted offset reads as. -/
abbrev Memory.wf (m : Memory) : Prop :=
  m.Pairwise (fun x y => x.1 < y.1) ∧ ∀ c ∈ m, bufferStart ≤ c.1 ∧ c.1 < bufferEnd ∧ c.2 ≠ 0

/-! ## The host -/

/-- What the host does to the block: an access at a window offset with a width in bytes, of which only 1 and 4 are
legal (20_memory.md R70, R72), or the reset input (70_reset_and_hazards.md R360). -/
inductive HostOp where
  /-- MemRead(off, width). -/
  | read (off : BitVec 14) (width : Nat)
  /-- MemWrite(off, width, data); a 1-byte write carries its byte in bits 7:0. -/
  | write (off : BitVec 14) (width : Nat) (data : Word)
  /-- The reset input becomes asserted. -/
  | assertReset
  /-- The reset input is released. -/
  | releaseReset
deriving DecidableEq, Repr

/-- A queued host event. `whileBusy` says whether it may land while a command runs or waits for its completion: the
two cover every LATENCY of 00_scope.md R6 (log entry 4). -/
structure HostEvent where
  whileBusy : Bool
  op : HostOp
deriving DecidableEq, Repr

/-! ## The state -/

/-- The state of the K1 block (R30, R52), the level of its reset input (R360), and the model's own `bus`, `reads`
and `draws` (log entry 9). ID is a constant and IRQ a function of the state (R41, R47), so neither is a field. -/
structure State where
  /-- B0..B15 (R31). -/
  b : Vector Wide 16
  /-- PX0..PX7 (R32). -/
  px : Vector Wide 8
  /-- PY0..PY7 (R33). -/
  py : Vector Wide 8
  /-- PINF bits 7:0 (R34, R46). -/
  pinf : Byte
  /-- SH0..SH7 (R35). -/
  sh : Vector Word 8
  /-- SW0..SW15 (R36). -/
  sw : Vector Word 16
  /-- TXBUF and SPKBUF (R37, R38). -/
  mem : Memory
  /-- STATUS (R43). -/
  status : StatusReg
  /-- CMD (R42). -/
  cmd : Word
  /-- IRQEN.DONEIE (R45). -/
  doneie : Bool
  /-- ERRCMD (R48). -/
  errcmd : Word
  /-- TXLEN.LEN (R50). -/
  txlen : BitVec 13
  /-- INIDX (R50). -/
  inidx : Word
  /-- SPKLEN.LEN (R50). -/
  spklen : BitVec 11
  /-- VMSTAT.REASON (R50). -/
  vmstat : Byte
  /-- The reset input is asserted (R360). -/
  resetLine : Bool
  /-- The script evaluation of a SCRIPT in progress (R52, R263). -/
  vm : Option Vm
  /-- The nonce stream of an ESIGN in progress (R52, R231). -/
  nonce : Option Nonce
  /-- The model's own: the host events still to come, the next one first. -/
  bus : List HostEvent
  /-- The model's own: the words returned to host reads, the latest first. -/
  reads : List Word
  /-- The model's own: how many free values have been drawn. -/
  draws : Nat
deriving DecidableEq, Repr

/-- Why the machine stops. No step of it does: the one reason is met by `exec` alone. -/
inductive Fault where
  /-- Raised by the meaning of a script command in a state where no SCRIPT is being evaluated (R260: the script VM is
  internal to SCRIPT). Safe: the spec gives script commands no effect there, and no step comes to it (log entry 12). -/
  | noScriptRunning
deriving DecidableEq, Repr

/-- Why an instruction has no meaning. -/
inductive Refusal where
  /-- Answered by an arm of `exec` whose instruction has no meaning yet. Safe: the machine stops. -/
  | notModelled (mnemonic : String)
deriving DecidableEq, Repr

/-- What one step answers. -/
abbrev Result := Host.Outcome State Fault Refusal

/-- STATUS after reset: IDLE, no DONE, no error, sticky bits clear (R53). -/
def StatusReg.reset : StatusReg :=
  { busy := false, done := false, err := false, res := false, ecode := 0, cmdovr := false, wbusy := false,
    buserr := false }

/-- The state right after reset (R53, R360). The data, point, SHA and buffer state is unspecified there; zero is the
model's value for it (DESIGN CHOICE, unsafe, log entries 1 and 2). The model's own fields are empty (log entry 9). -/
def State.reset : State :=
  { b := Vector.replicate 16 0, px := Vector.replicate 8 0, py := Vector.replicate 8 0, pinf := 0,
    sh := Vector.replicate 8 0, sw := Vector.replicate 16 0, mem := [], status := StatusReg.reset, cmd := 0,
    doneie := false, errcmd := 0, txlen := 0, inidx := 0, spklen := 0, vmstat := 0, resetLine := false, vm := none,
    nonce := none, bus := [], reads := [], draws := 0 }

end Sys2Proof.Machine
end

