-- ==== Sys2Proof/Machine/Ops.lean ====
section
/-! DEFINITION. The named operations over the state: buffer bytes, registers, the acceptance of a command
(10_state.md R42), its completion (R40), taking a fault (60_exceptions.md R334) and acknowledging one (R337). -/

namespace Sys2Proof.Machine

/-! ## Buffer memory (R37, R38) -/

/-- The byte at an offset; an unlisted offset reads as 0 (log entry 2). -/
def memRead : Memory → Nat → Byte
  | [], _ => 0
  | c :: rest, a => if c.1 = a then c.2 else memRead rest a

/-- The memory with one byte stored, canonical form kept: a zero byte is not listed. -/
def memWrite : Memory → Nat → Byte → Memory
  | [], a, v => if v = 0 then [] else [(a, v)]
  | c :: rest, a, v =>
    if a < c.1 then (if v = 0 then c :: rest else (a, v) :: c :: rest)
    else if a = c.1 then (if v = 0 then rest else (a, v) :: rest)
    else c :: memWrite rest a v

/-- `n` bytes from offset `a` on. -/
def memBytes (m : Memory) (a n : Nat) : Bytes := (List.range n).map fun k => memRead m (a + k)

/-- TXBUF[0 .. TXLEN) (R305). -/
def txBytes (s : State) : Bytes := memBytes s.mem txBufBase s.txlen.toNat

/-- SPKBUF[0 .. SPKLEN) (R287, R308). -/
def spkBytes (s : State) : Bytes := memBytes s.mem spkBufBase s.spklen.toNat

/-! ## Registers -/

/-- `B[i]` as an unsigned integer (00_scope.md R13, R31). -/
def readB (s : State) (i : Fin 16) : Nat := s.b[i].toNat

/-- `B[i] <- v` for v < 2^256. -/
def writeB (s : State) (i : Fin 16) (v : Nat) : State := { s with b := s.b.set i (BitVec.ofNat 256 v) }

/-- `PINF[i]` (R34). -/
def pinfBit (s : State) (i : Fin 8) : Bool := s.pinf.getLsbD i

/-- PINF with bit i set to a value, the others unchanged (R202). -/
def setPinfBit (p : Byte) (i : Fin 8) (v : Bool) : Byte :=
  (p &&& ~~~(1#8 <<< i.val)) ||| ((BitVec.ofBool v).setWidth 8 <<< i.val)

/-- `P[i]`: O where PINF[i] = 1, else the pair of coordinates (R13, R34). -/
def readPoint (s : State) (i : Fin 8) : Point :=
  if pinfBit s i then .infinity else .affine s.px[i].toNat s.py[i].toNat

/-- The three pieces of a point register written at once (R202, R209). -/
def setPointRegs (s : State) (i : Fin 8) (x y : Wide) (inf : Bool) : State :=
  { s with px := s.px.set i x, py := s.py.set i y, pinf := setPinfBit s.pinf i inf }

/-- `P[i] <- Q` (R202): O is written with zero coordinates. -/
def writePoint (s : State) (i : Fin 8) (q : Point) : State :=
  match q with
  | .infinity => setPointRegs s i 0 0 true
  | .affine x y => setPointRegs s i (BitVec.ofNat 256 x) (BitVec.ofNat 256 y) false

/-! ## Acceptance, completion, faults -/

/-- A CMD write while BUSY = 0: the word is stored, BUSY set, DONE, ERR, RES and ECODE cleared, the sticky bits kept
(R42). The command starts with none of the values of R52 present. -/
def acceptCommand (s : State) (w : Word) : State :=
  { s with
    cmd := w, vm := none, nonce := none,
    status := { s.status with busy := true, done := false, err := false, res := false, ecode := 0 } }

/-- The completion of a command that did not fault, its destinations already written (R40): RES is its result flag,
BUSY falls, DONE rises, and no value of R52 is left. -/
def complete (s : State) (res : Bool) : State :=
  { s with vm := none, nonce := none, status := { s.status with busy := false, done := true, res := res } }

/-- The ECODE value of a fault code (60_exceptions.md R330). -/
def faultByte : FaultCode → Byte
  | .illegal => 0x01
  | .range => 0x02
  | .invz => 0x03
  | .notCurve => 0x04
  | .key => 0x05
  | .parse => 0x06
  | .index => 0x07
  | .len => 0x08

/-- Taking a fault: `raise c`, the completion of a command that faults (R40, R334). No destination is written; ERR,
ECODE and ERRCMD record it, RES is 0, BUSY falls and DONE rises. No control is transferred (R336). -/
def raiseFault (s : State) (c : FaultCode) : State :=
  { s with
    vm := none, nonce := none, errcmd := s.cmd,
    status := { s.status with busy := false, done := true, err := true, res := false, ecode := faultByte c } }

/-- The return from a fault: the host's write of 1 to STATUS.DONE acknowledges a completion, and nothing is restored
(R337). The other acknowledgement is `acceptCommand`. -/
def acknowledge (s : State) : State := { s with status := { s.status with done := false } }

/-- The IRQ output: DONEIE and DONE, a level (R47, R340). -/
def irq (s : State) : Bool := s.doneie && s.status.done

end Sys2Proof.Machine
end

