-- ==== Sys2Proof/Machine/Flags.lean ====
section
/-! DEFINITION. The flags: the STATUS word and its write-1-to-clear bits (10_state.md R43), the result flags of R44,
and the sticky flags (R42, R49, 20_memory.md R73). -/

namespace Sys2Proof.Machine

/-- A flag as bit `k` of a word. -/
def flagBit (f : Bool) (k : Nat) : Word := (BitVec.ofBool f).setWidth 32 <<< k

/-- The word a read of STATUS returns (R43); bits 7:4 and 31:19 read as zero. -/
def statusWord (t : StatusReg) : Word :=
  flagBit t.busy 0 ||| flagBit t.done 1 ||| flagBit t.err 2 ||| flagBit t.res 3 ||| (t.ecode.setWidth 32 <<< 8) |||
  flagBit t.cmdovr 16 ||| flagBit t.wbusy 17 ||| flagBit t.buserr 18

/-- A flag after a W1C write: a 1 clears it, a 0 has no effect (R43). -/
def clearedBy (w : Word) (k : Nat) (f : Bool) : Bool := f && !w.getLsbD k

/-- STATUS after a write: DONE, CMDOVR, WBUSY and BUSERR are W1C, the rest is RO (R43, 20_memory.md R84). -/
def statusAfterWrite (t : StatusReg) (w : Word) : StatusReg :=
  { t with
    done := clearedBy w 1 t.done, cmdovr := clearedBy w 16 t.cmdovr, wbusy := clearedBy w 17 t.wbusy,
    buserr := clearedBy w 18 t.buserr }

/-- The sticky flag of a CMD write that arrived while BUSY (R42). -/
def setCmdovr (s : State) : State := { s with status := { s.status with cmdovr := true } }

/-- The sticky flag of an operand write that arrived while BUSY (R49). -/
def setWbusy (s : State) : State := { s with status := { s.status with wbusy := true } }

/-- The sticky flag of a bus error (R73). -/
def setBuserr (s : State) : State := { s with status := { s.status with buserr := true } }

/-- RES of FEQ and NEQ: the operands are equal (R173, R180). -/
def resEqual (a b : Nat) : Bool := a == b

/-- RES of FSQRT: r is a square root of a mod p (R172). -/
def resIsRoot (r a : Nat) : Bool := mulMod primeP r r == a

end Sys2Proof.Machine
end

