-- ==== Sys2Proof/Machine/Bus.lean ====
section
/-! DEFINITION. The MMIO window as the host sees it (20_memory.md R70 to R77): the address map, reads, writes, the
write-acceptance rule while BUSY (10_state.md R49), free reads while BUSY (R51), and the reset input
(70_reset_and_hazards.md R360, R361). -/

namespace Sys2Proof.Machine

/-! ## The address map (R77) -/

/-- The control page 0x0000 to 0x00FF, 4-byte accesses only. -/
def inControl (a : Nat) : Bool := decide (a < 0x100)

/-- B0..B15 (R31). -/
def inB (a : Nat) : Bool := decide (0x100 ≤ a ∧ a < 0x300)

/-- SH0..SH7 (R35). -/
def inSh (a : Nat) : Bool := decide (0x300 ≤ a ∧ a < 0x320)

/-- SW0..SW15 (R36). -/
def inSw (a : Nat) : Bool := decide (0x320 ≤ a ∧ a < 0x360)

/-- PX0..PX7 and PY0..PY7 (R32, R33). -/
def inPoint (a : Nat) : Bool := decide (0x400 ≤ a ∧ a < 0x600)

/-- TXBUF and SPKBUF (R37, R38). -/
def inBuffer (a : Nat) : Bool := decide (bufferStart ≤ a ∧ a < bufferEnd)

/-- The B register an offset lies in (R31). -/
def bIndex (a : Nat) : Fin 16 := Fin.ofNat 16 ((a - 0x100) / 0x20)

/-- The SH register an offset lies in (R35). -/
def shIndex (a : Nat) : Fin 8 := Fin.ofNat 8 ((a - 0x300) / 4)

/-- The SW register an offset lies in (R36). -/
def swIndex (a : Nat) : Fin 16 := Fin.ofNat 16 ((a - 0x320) / 4)

/-- The point register an offset lies in (R32, R33). -/
def pointIndexAt (a : Nat) : Fin 8 := Fin.ofNat 8 ((a - 0x400) / 0x40)

/-- Which half of a point register an offset lies in: PY from 0x20 on (R33). -/
def inPy (a : Nat) : Bool := decide (0x20 ≤ a % 0x40)

/-- Engine-operand state (R49), as offsets: PINF, TXLEN, INIDX and SPKLEN in the control page, and B, SH, SW, the
point coordinates and the buffers. -/
def isOperand (a : Nat) : Bool :=
  a == 0x14 || a == 0x18 || a == 0x1C || a == 0x20 || inB a || inSh a || inSw a || inPoint a || inBuffer a

/-- State a command can write (R51), as offsets: ERRCMD, PINF and VMSTAT in the control page, and B, SH and the
point coordinates. -/
def isResult (a : Nat) : Bool :=
  a == 0x10 || a == 0x14 || a == 0x24 || inB a || inSh a || inPoint a

/-- A bus error (R73): a wrong width, a misaligned word, or a byte of the control page. -/
def busError (a width : Nat) : Bool :=
  if width = 4 then a % 4 != 0 else if width = 1 then inControl a else true

/-! ## Reads -/

/-- The word of a control register (R41 to R50); reserved offsets read as 0 (R75). -/
def controlWord (s : State) : Nat → Word
  | 0x00 => idValue
  | 0x04 => statusWord s.status
  | 0x08 => s.cmd
  | 0x0C => flagBit s.doneie 0
  | 0x10 => s.errcmd
  | 0x14 => s.pinf.setWidth 32
  | 0x18 => s.txlen.setWidth 32
  | 0x1C => s.inidx
  | 0x20 => s.spklen.setWidth 32
  | 0x24 => s.vmstat.setWidth 32
  | _ => 0

/-- The byte at an offset from 0x100 on (R71, R77); reserved offsets read as 0 (R75). -/
def dataByte (s : State) (a : Nat) : Byte :=
  if inB a then wideByte s.b[bIndex a] (a % 0x20)
  else if inSh a then wordByte s.sh[shIndex a] (a % 4)
  else if inSw a then wordByte s.sw[swIndex a] (a % 4)
  else if inPoint a then
    wideByte (if inPy a then s.py[pointIndexAt a] else s.px[pointIndexAt a]) (a % 0x20)
  else if inBuffer a then memRead s.mem a
  else 0

/-- What a legal read returns while IDLE, and of input state always: a byte, or four bytes big-endian (R71). -/
def readValue (s : State) (a width : Nat) : Word :=
  if width = 1 then (dataByte s a).setWidth 32
  else if inControl a then controlWord s a
  else wordOfBytes (dataByte s a) (dataByte s (a + 1)) (dataByte s (a + 2)) (dataByte s (a + 3))

/-- A drawn value in the bits a register has: PINF and VMSTAT have 8, the rest read as zero (R46, R50); a byte
access carries 8 (log entry 8). -/
def drawnValue (a width : Nat) (v : Word) : Word :=
  if width = 1 ∨ a = 0x14 ∨ a = 0x24 then (v.setWidth 8).setWidth 32 else v

/-- A host read (R71, R73, R51): the word returned is the first of `reads`. -/
def hostRead (s : State) (a width : Nat) : State :=
  if busError a width then { setBuserr s with reads := 0 :: s.reads }
  else if s.status.busy && isResult a then
    { s with reads := drawnValue a width (Config.busyRead s.draws) :: s.reads, draws := s.draws + 1 }
  else { s with reads := readValue s a width :: s.reads }

/-! ## Writes -/

/-- One byte stored at an offset from 0x100 on; reserved offsets ignore it (R71, R75). -/
def storeByte (s : State) (a : Nat) (v : Byte) : State :=
  if inB a then { s with b := s.b.set (bIndex a) (setWideByte s.b[bIndex a] (a % 0x20) v) }
  else if inSh a then { s with sh := s.sh.set (shIndex a) (setWordByte s.sh[shIndex a] (a % 4) v) }
  else if inSw a then { s with sw := s.sw.set (swIndex a) (setWordByte s.sw[swIndex a] (a % 4) v) }
  else if inPoint a then
    if inPy a then
      { s with py := s.py.set (pointIndexAt a) (setWideByte s.py[pointIndexAt a] (a % 0x20) v) }
    else { s with px := s.px.set (pointIndexAt a) (setWideByte s.px[pointIndexAt a] (a % 0x20) v) }
  else if inBuffer a then { s with mem := memWrite s.mem a v }
  else s

/-- The bytes of an access stored: one, or four big-endian (R71, R74). -/
def storeData (s : State) (a width : Nat) (v : Word) : State :=
  if width = 1 then storeByte s a (v.setWidth 8)
  else
    storeByte (storeByte (storeByte (storeByte s a (wordByte v 0)) (a + 1) (wordByte v 1)) (a + 2) (wordByte v 2))
      (a + 3) (wordByte v 3)

/-- A CMD write (R42): accepted while IDLE, else dropped with CMDOVR. -/
def writeCmd (s : State) (v : Word) : State := if s.status.busy then setCmdovr s else acceptCommand s v

/-- A word written to a control register, BUSY already seen to (R41 to R50); reserved bits, RO registers and
reserved offsets ignore it. -/
def writeControl (s : State) (a : Nat) (v : Word) : State :=
  match a with
  | 0x04 => { s with status := statusAfterWrite s.status v }
  | 0x08 => writeCmd s v
  | 0x0C => { s with doneie := v.getLsbD 0 }
  | 0x14 => { s with pinf := v.setWidth 8 }
  | 0x18 => { s with txlen := v.setWidth 13 }
  | 0x1C => { s with inidx := v }
  | 0x20 => { s with spklen := v.setWidth 11 }
  | _ => s

/-- A host write (R73, R49): a bus error changes nothing but BUSERR; an operand write while BUSY changes nothing but
WBUSY. -/
def hostWrite (s : State) (a width : Nat) (v : Word) : State :=
  if busError a width then setBuserr s
  else if s.status.busy && isOperand a then setWbusy s
  else if inControl a then writeControl s a v
  else storeData s a width v

/-! ## The reset input -/

/-- The buffers after a reset: every byte a free draw (R360, U1), in canonical form. -/
def resetMemory (d : Nat) : Memory :=
  (List.range' bufferStart (bufferEnd - bufferStart)).filterMap fun a =>
    if Config.resetByte d a = 0 then none else some (a, Config.resetByte d a)

/-- The reset input asserted (R360, R361): the control state takes the values of R53, a running command is aborted
with no completion, and the data state is a free draw (log entry 3). The host's own events and reads stand. -/
def applyReset (s : State) : State :=
  { State.reset with
    b := Config.resetB s.draws, px := Config.resetPx s.draws, py := Config.resetPy s.draws,
    pinf := Config.resetPinf s.draws, sh := Config.resetSh s.draws, sw := Config.resetSw s.draws,
    mem := resetMemory s.draws, resetLine := true, bus := s.bus, reads := s.reads, draws := s.draws + 1 }

/-! ## One host event -/

/-- One event of the host (R80). While reset is asserted accesses are ignored and reads return 0 (R360). -/
def hostEvent (s : State) : HostOp → State
  | .read off width =>
    if s.resetLine then { s with reads := 0 :: s.reads } else hostRead s off.toNat width
  | .write off width v => if s.resetLine then s else hostWrite s off.toNat width v
  | .assertReset => applyReset s
  | .releaseReset => { s with resetLine := false }

/-- The physical address of a window offset (R6, R70). -/
def physicalAddress (off : BitVec 14) : Nat := Config.base + off.toNat

end Sys2Proof.Machine
end

