-- ==== Sys2Proof/Machine/Hash.lean ====
section
/-! DEFINITION. SHA-256 (40_sha256.md R130 to R134) and the hash functions built on it (R135 to R137). -/

namespace Sys2Proof.Machine

/-! ## Word operations (R130) -/

/-- ROTR(x, k) for 0 < k < 32. -/
def rotr (x : Word) (k : Nat) : Word := (x >>> k) ||| (x <<< (32 - k))

/-- Ch(x, y, z). -/
def shaCh (x y z : Word) : Word := (x &&& y) ^^^ (~~~x &&& z)

/-- Maj(x, y, z). -/
def shaMaj (x y z : Word) : Word := (x &&& y) ^^^ (x &&& z) ^^^ (y &&& z)

/-- Σ0(x). -/
def bigSigma0 (x : Word) : Word := rotr x 2 ^^^ rotr x 13 ^^^ rotr x 22

/-- Σ1(x). -/
def bigSigma1 (x : Word) : Word := rotr x 6 ^^^ rotr x 11 ^^^ rotr x 25

/-- σ0(x). -/
def smallSigma0 (x : Word) : Word := rotr x 7 ^^^ rotr x 18 ^^^ (x >>> 3)

/-- σ1(x). -/
def smallSigma1 (x : Word) : Word := rotr x 17 ^^^ rotr x 19 ^^^ (x >>> 10)

/-! ## Constants (R131, R132) -/

/-- The round constants K[0..63] (R131). -/
def roundConstants : List Word :=
  [0x428a2f98, 0x71374491, 0xb5c0fbcf, 0xe9b5dba5, 0x3956c25b, 0x59f111f1, 0x923f82a4, 0xab1c5ed5] ++
  [0xd807aa98, 0x12835b01, 0x243185be, 0x550c7dc3, 0x72be5d74, 0x80deb1fe, 0x9bdc06a7, 0xc19bf174] ++
  [0xe49b69c1, 0xefbe4786, 0x0fc19dc6, 0x240ca1cc, 0x2de92c6f, 0x4a7484aa, 0x5cb0a9dc, 0x76f988da] ++
  [0x983e5152, 0xa831c66d, 0xb00327c8, 0xbf597fc7, 0xc6e00bf3, 0xd5a79147, 0x06ca6351, 0x14292967] ++
  [0x27b70a85, 0x2e1b2138, 0x4d2c6dfc, 0x53380d13, 0x650a7354, 0x766a0abb, 0x81c2c92e, 0x92722c85] ++
  [0xa2bfe8a1, 0xa81a664b, 0xc24b8b70, 0xc76c51a3, 0xd192e819, 0xd6990624, 0xf40e3585, 0x106aa070] ++
  [0x19a4c116, 0x1e376c08, 0x2748774c, 0x34b0bcb5, 0x391c0cb3, 0x4ed8aa4a, 0x5b9cca4f, 0x682e6ff3] ++
  [0x748f82ee, 0x78a5636f, 0x84c87814, 0x8cc70208, 0x90befffa, 0xa4506ceb, 0xbef9a3f7, 0xc67178f2]

/-- The initial hash value H0 (R132). -/
def initialHash : Vector Word 8 :=
  #v[0x6a09e667, 0xbb67ae85, 0x3c6ef372, 0xa54ff53a, 0x510e527f, 0x9b05688c, 0x1f83d9ab, 0x5be0cd19]

/-! ## Compression (R133) -/

/-- The next schedule word from the last sixteen, W[t−16] first:
σ1(W[t−2]) + W[t−7] + σ0(W[t−15]) + W[t−16]. -/
def nextScheduleWord (w : List Word) : Word :=
  smallSigma1 (w.getD 14 0) + w.getD 9 0 + smallSigma0 (w.getD 1 0) + w.getD 0 0

/-- The schedule from a window of its last sixteen words: `n` more words come after the window's first. -/
def scheduleFrom : Nat → List Word → List Word
  | 0, w => w
  | n + 1, w => w.getD 0 0 :: scheduleFrom n (w.drop 1 ++ [nextScheduleWord w])

/-- The message schedule W[0..63] of a block of sixteen words. -/
def schedule (block : List Word) : List Word := scheduleFrom 48 block

/-- The working variables a to h (R52, R133). -/
structure Working where
  a : Word
  b : Word
  c : Word
  d : Word
  e : Word
  f : Word
  g : Word
  h : Word

/-- One round with K[t] and W[t]. -/
def shaRound (v : Working) (kw : Word × Word) : Working :=
  let t1 := v.h + bigSigma1 v.e + shaCh v.e v.f v.g + kw.1 + kw.2
  let t2 := bigSigma0 v.a + shaMaj v.a v.b v.c
  { a := t1 + t2, b := v.a, c := v.b, d := v.c, e := v.d + t1, f := v.e, g := v.f, h := v.g }

/-- The working variables a chaining value starts with. -/
def workingOf (h : Vector Word 8) : Working :=
  { a := h[0], b := h[1], c := h[2], d := h[3], e := h[4], f := h[5], g := h[6], h := h[7] }

/-- The chaining value plus the working variables, word by word. -/
def addWorking (h : Vector Word 8) (v : Working) : Vector Word 8 :=
  #v[h[0] + v.a, h[1] + v.b, h[2] + v.c, h[3] + v.d, h[4] + v.e, h[5] + v.f, h[6] + v.g, h[7] + v.h]

/-- The compression of one block into a chaining value (R133). -/
def compress (h : Vector Word 8) (block : List Word) : Vector Word 8 :=
  addWorking h ((roundConstants.zip (schedule block)).foldl shaRound (workingOf h))

/-! ## Hash functions (R134 to R137) -/

/-- `pad(m)` with the length of m given: 0x80, the fewest zero bytes to 56 mod 64, the bit length (R134). -/
def shaPadding (len : Nat) : Bytes :=
  0x80 :: List.replicate ((55 + 64 - len % 64) % 64) 0 ++ beBytes 8 (8 * len)

/-- The big-endian 32-bit words of a byte string, `n` of them. -/
def beWords : Nat → Bytes → List Word
  | 0, _ => []
  | n + 1, bs => wordOfBytes (bs.getD 0 0) (bs.getD 1 0) (bs.getD 2 0) (bs.getD 3 0) :: beWords n (bs.drop 4)

/-- The 64-byte blocks of a padded message, `n` of them, compressed in order. -/
def compressBlocks : Nat → Bytes → Vector Word 8 → Vector Word 8
  | 0, _, h => h
  | n + 1, bs, h => compressBlocks n (bs.drop 64) (compress h (beWords 16 bs))

/-- The digest bytes of a chaining value, each word big-endian (R134). -/
def digestBytes (h : Vector Word 8) : Bytes := h.toList.flatMap fun w => beBytes 4 w.toNat

/-- `SHA256(m)`, the one-shot hash (R134). -/
def sha256 (m : Bytes) : Bytes :=
  let padded := m ++ shaPadding m.length
  digestBytes (compressBlocks (padded.length / 64) padded initialHash)

/-- `HASH256(x) = SHA256(SHA256(x))` (R135). -/
def hash256 (x : Bytes) : Bytes := sha256 (sha256 x)

/-- The inputs of RIPEMD160 whose values R8 lets a model assume, with those values: the empty string, and the SHA-256
digests of ε and of "abc" (95_test_vectors.md L2.2). -/
def ripemdPinned : List (Bytes × Bytes) :=
  [([], beBytes 20 0x9c1185a5c5e9fc54612808977ee8f548b2258d31)] ++
  [(beBytes 32 0xe3b0c44298fc1c149afbf4c8996fb92427ae41e4649b934ca495991b7852b855,
    beBytes 20 0xb472a266d0bd89c13706a4132ccfb16f7c3b9fcb)] ++
  [(beBytes 32 0xba7816bf8f01cfea414140de5dae2223b00361a396177a9cb410ff61f20015ad,
    beBytes 20 0xbb1be98c142444d7a56aa3981c3942a978e4dc33)]

/-- `RIPEMD160`, the parameter function of R8: the pinned value where there is one, else the uninterpreted
function of the configuration, which returns 20 bytes (log entry 7). -/
def ripemd160 (x : Bytes) : Bytes :=
  match ripemdPinned.lookup x with
  | some d => d
  | none => (Config.ripemd160 x).toList

/-- `HASH160(x) = RIPEMD160(SHA256(x))` (R136). -/
def hash160 (x : Bytes) : Bytes := ripemd160 (sha256 x)

/-- The 64-byte HMAC key block XORed with a pad byte (R137). -/
def hmacKeyBlock (k : Bytes) (pad : Byte) : Bytes := (k ++ List.replicate 32 0).map (· ^^^ pad)

/-- HMAC-SHA-256 with a 32-byte key (R137). -/
def hmac (k m : Bytes) : Bytes :=
  sha256 (hmacKeyBlock k 0x5c ++ sha256 (hmacKeyBlock k 0x36 ++ m))

end Sys2Proof.Machine
end

