-- ==== Sys2Proof/Machine/TxFormat.lean ====
section
/-! DEFINITION. Transactions: the varint (45_tx_sighash.md R300, R301), the parse (R302 to R305), the legacy
serialization (R306) and the digest (R307). A parser takes the bytes left from the cursor and gives what it read
with the bytes left after it; `none` is EPARSE. -/

namespace Sys2Proof.Machine

/-! ## Field codecs -/

/-- `take(k)` (R305). -/
def takeBytes (k : Nat) (bs : Bytes) : Option (Bytes × Bytes) :=
  if k ≤ bs.length then some (bs.take k, bs.drop k) else none

/-- The k-byte payload of a long varint, refused where a shorter form would do, v < `least` (R300). -/
def varintPayload (k least : Nat) (bs : Bytes) : Option (Nat × Bytes) := do
  let p ← takeBytes k bs
  if intLe p.1 < least then none else some (intLe p.1, p.2)

/-- `VARINT_READ()` (R300). -/
def readVarint (bs : Bytes) : Option (Nat × Bytes) :=
  match bs with
  | [] => none
  | b :: rest =>
    if b.toNat < 0xFD then some (b.toNat, rest)
    else if b.toNat = 0xFD then varintPayload 2 0xFD rest
    else if b.toNat = 0xFE then varintPayload 4 (2 ^ 16) rest
    else varintPayload 8 (2 ^ 32) rest

/-- `varint(v)`, the minimal encoding (R301). -/
def varint (v : Nat) : Bytes :=
  if v < 0xFD then [BitVec.ofNat 8 v]
  else if v < 2 ^ 16 then 0xFD :: leBytes 2 v
  else if v < 2 ^ 32 then 0xFE :: leBytes 4 v
  else 0xFF :: leBytes 8 v

/-- A varint length and that many bytes. -/
def readVarBytes (bs : Bytes) : Option (Bytes × Bytes) := do
  let l ← readVarint bs
  takeBytes l.1 l.2

/-- A TxIn, its fields in parse order (R302). -/
def readTxIn (bs : Bytes) : Option (TxIn × Bytes) := do
  let prevTx ← takeBytes 32 bs
  let prevIndex ← takeBytes 4 prevTx.2
  let scriptSig ← readVarBytes prevIndex.2
  let sequence ← takeBytes 4 scriptSig.2
  pure ({ prevTx := prevTx.1, prevIndex := prevIndex.1, scriptSig := scriptSig.1, sequence := sequence.1 },
    sequence.2)

/-- A TxOut, its fields in parse order (R303). -/
def readTxOut (bs : Bytes) : Option (TxOut × Bytes) := do
  let amount ← takeBytes 8 bs
  let scriptPubkey ← readVarBytes amount.2
  pure ({ amount := amount.1, scriptPubkey := scriptPubkey.1 }, scriptPubkey.2)

/-- `n` items read one after the other. -/
def readMany {α : Type} (read : Bytes → Option (α × Bytes)) : Nat → Bytes → Option (List α × Bytes)
  | 0, bs => some ([], bs)
  | n + 1, bs => do
    let x ← read bs
    let more ← readMany read n x.2
    pure (x.1 :: more.1, more.2)

/-- A varint count and that many items. -/
def readCounted {α : Type} (read : Bytes → Option (α × Bytes)) (bs : Bytes) : Option (List α × Bytes) := do
  let n ← readVarint bs
  readMany read n.1 n.2

/-- The witness of one input: a count of items, each a varint length and its bytes (R304). -/
def readWitness (bs : Bytes) : Option (List Bytes × Bytes) := readCounted readVarBytes bs

/-! ## The parse -/

/-- KC's peek test: bytes 4 and 5 are 0x00 0x01 (R305, U7). -/
def segwitMark (t : Bytes) : Bool := decide (6 ≤ t.length) && t.getD 4 0 == 0x00 && t.getD 5 0 == 0x01

/-- `TXPARSE()` of the bytes TXBUF[0 .. TXLEN) (R305). -/
def parseTx (t : Bytes) : Option Tx := do
  let version ← takeBytes 4 t
  let marker ← takeBytes (if segwitMark t then 2 else 0) version.2
  let ins ← readCounted readTxIn marker.2
  let outs ← readCounted readTxOut ins.2
  let witnesses ← readMany readWitness (if segwitMark t then ins.1.length else 0) outs.2
  let locktime ← takeBytes 4 witnesses.2
  if locktime.2.isEmpty then
    pure { version := version.1, segwit := segwitMark t, ins := ins.1, outs := outs.1, witnesses := witnesses.1,
           locktime := locktime.1 }
  else none

/-! ## Serialization and digest -/

/-- A script body or a byte string after its varint length (30_encoding.md R112). -/
def serVarBytes (b : Bytes) : Bytes := varint b.length ++ b

/-- An input with its script body replaced by `sub` (R306). -/
def serTxIn (x : TxIn) (sub : Bytes) : Bytes := x.prevTx ++ x.prevIndex ++ serVarBytes sub ++ x.sequence

/-- An output (R306). -/
def serTxOut (o : TxOut) : Bytes := o.amount ++ serVarBytes o.scriptPubkey

/-- The inputs from index `j` on, input `k` with the script body `sub k` (R306). -/
def serTxIns (sub : Nat → Bytes) : Nat → List TxIn → Bytes
  | _, [] => []
  | j, x :: xs => serTxIn x (sub j) ++ serTxIns sub (j + 1) xs

/-- The inputs and the outputs with their counts, as LEGACY_SER lays them out (R306). -/
def serBody (tx : Tx) (sub : Nat → Bytes) : Bytes :=
  varint tx.ins.length ++ serTxIns sub 0 tx.ins ++ varint tx.outs.length ++ tx.outs.flatMap serTxOut

/-- `LEGACY_SER(tx, sub)` (R306). -/
def legacySer (tx : Tx) (sub : Nat → Bytes) : Bytes := tx.version ++ serBody tx sub ++ tx.locktime

/-- The preimage of input `i` against script body `script`: every other script_sig empty, type 1 appended (R307). -/
def sighashPreimage (tx : Tx) (i : Nat) (script : Bytes) : Bytes :=
  legacySer tx (fun j => if j = i then script else []) ++ leBytes 4 1

/-- `SIGHASH_Z(tx, i, S)`, the legacy SIGHASH_ALL digest (R307). -/
def sighashZ (tx : Tx) (i : Nat) (script : Bytes) : Nat := intBe (hash256 (sighashPreimage tx i script))

/-! ## Serialization laws (R309), which no command computes -/

/-- The script body input `j` was parsed with. -/
def ownScript (tx : Tx) (j : Nat) : Bytes := ((tx.ins[j]?).map TxIn.scriptSig).getD []

/-- The witness items of one input with their count (R309). -/
def serWitness (items : List Bytes) : Bytes := varint items.length ++ items.flatMap serVarBytes

/-- `FULL_SER(tx)`, the serialization with witness (R309). -/
def fullSer (tx : Tx) : Bytes :=
  if tx.segwit then
    tx.version ++ [0x00, 0x01] ++ serBody tx (ownScript tx) ++ tx.witnesses.flatMap serWitness ++ tx.locktime
  else legacySer tx (ownScript tx)

/-- The txid: HASH256 of the serialization without witness (R309). -/
def txid (tx : Tx) : Bytes := hash256 (legacySer tx (ownScript tx))

end Sys2Proof.Machine
end

