-- ==== Sys2Proof/Machine/Operands.lean ====
section
/-! DEFINITION. The operand forms of the commands: range-checked B operands (41_field.md R163), unchecked ones,
validated point operands (42_curve.md R201), the LDK constants (R166), and the buffers' lengths. Each takes the rest
of the command as a function of the operand's value. -/

namespace Sys2Proof.Machine

/-- A command that raises `c` now (R334). -/
def raise (s : State) (c : FaultCode) : Result := .next (raiseFault s c)

/-- A command that completes with the destination writes of `s` made (R40). -/
def finish (s : State) (res : Bool) : Result := .next (complete s res)

/-- A B operand range-checked against `m`: ERANGE where its value is not below `m` (R163). -/
def rangeChecked (m : Nat) (s : State) (i : Fin 16) (k : Nat → Result) : Result :=
  if readB s i ≥ m then raise s .range else k (readB s i)

/-- Two B operands range-checked in field order, RA then RB (R163, R332). -/
def rangeChecked2 (m : Nat) (s : State) (ra rb : Fin 16) (k : Nat → Nat → Result) : Result :=
  rangeChecked m s ra fun a => rangeChecked m s rb fun b => k a b

/-- A B operand range-checked and then refused where it is 0: ERANGE before EINVZ (R170, R178, R332). -/
def invertible (m : Nat) (s : State) (i : Fin 16) (k : Nat → Result) : Result :=
  rangeChecked m s i fun a => if a = 0 then raise s .invz else k a

/-- A point operand: ENOTCURVE where it is not valid (R201). -/
def validPoint (s : State) (i : Fin 8) (k : Point → Result) : Result :=
  if pointValid (readPoint s i) then k (readPoint s i) else raise s .notCurve

/-- KTAB[k] (R166); `none` for a selector above 6 (R104(e)). -/
def constantTable : Nat → Option Nat
  | 0 => some 0
  | 1 => some 1
  | 2 => some primeP
  | 3 => some orderN
  | 4 => some genX
  | 5 => some genY
  | 6 => some halfN
  | _ => none

/-- The checks SIGHASH and SCRIPT share, in the order of R332: ELEN for TXLEN, ELEN for SPKLEN, EPARSE, EINDEX. The
rest of the command takes the parsed transaction and its input INIDX. -/
def checkedTx (s : State) (k : Tx → TxIn → Result) : Result :=
  if s.txlen.toNat > txBufSize then raise s .len
  else if s.spklen.toNat > spkBufSize then raise s .len
  else
    match parseTx (txBytes s) with
    | none => raise s .parse
    | some tx =>
      match tx.ins[s.inidx.toNat]? with
      | none => raise s .index
      | some x => k tx x

end Sys2Proof.Machine
end

