-- ==== Sys2Proof/Machine/CurveCmds.lean ====
section
/-! DEFINITION. The curve unit's commands (42_curve.md R204 to R209): one meaning each. -/

namespace Sys2Proof.Machine

/-- PADD (R204): RA is validated before RB. -/
def execPadd (pd pa pb : Fin 8) (s : State) : Result :=
  validPoint s pa fun q1 => validPoint s pb fun q2 => finish (writePoint s pd (pointAdd q1 q2)) false

/-- PDBL (R205). -/
def execPdbl (pd pa : Fin 8) (s : State) : Result :=
  validPoint s pa fun q => finish (writePoint s pd (pointAdd q q)) false

/-- PMUL (R206): any 256-bit scalar. -/
def execPmul (pd pa : Fin 8) (rb : Fin 16) (s : State) : Result :=
  validPoint s pa fun q => finish (writePoint s pd (pointMul (readB s rb) q)) false

/-- PLDG (R207). -/
def execPldg (pd : Fin 8) (s : State) : Result := finish (writePoint s pd pointG) false

/-- PCHK (R208): an invalid point is a result, not a fault. -/
def execPchk (pa : Fin 8) (s : State) : Result := finish s (pointValid (readPoint s pa))

/-- PMOV (R209): the three pieces copied verbatim, not validated. -/
def execPmov (pd pa : Fin 8) (s : State) : Result :=
  finish (setPointRegs s pd s.px[pa] s.py[pa] (pinfBit s pa)) false

end Sys2Proof.Machine
end

