-- ==== Sys2Proof/Machine/EcdsaMath.lean ====
section
/-! DEFINITION. The ECDSA unit's functions: the RFC 6979 candidate stream (43_ecdsa.md R231), one signing attempt
(R232), verification (R234), and the SEC and DER decoders (R240, R241). -/

namespace Sys2Proof.Machine

/-! ## Signing -/

/-- K and V when the candidate stream starts, from the key and z mod n (R231). -/
def nonceStart (e z : Nat) : Nonce :=
  let x := beBytes 32 e
  let h := beBytes 32 (z % orderN)
  let v0 : Bytes := List.replicate 32 0x01
  let k0 : Bytes := List.replicate 32 0x00
  let k1 := hmac k0 (v0 ++ [0x00] ++ x ++ h)
  let v1 := hmac k1 v0
  let k2 := hmac k1 (v1 ++ [0x01] ++ x ++ h)
  { k := k2, v := hmac k2 v1 }

/-- V of the next turn of the stream's loop; the candidate is `int_be(V)` (R231). -/
def nonceValue (st : Nonce) : Bytes := hmac st.k st.v

/-- The stream after a candidate is out of range or rejected (R231). -/
def nonceReject (st : Nonce) : Nonce :=
  let k := hmac st.k (nonceValue st ++ [0x00])
  { k := k, v := hmac k (nonceValue st) }

/-- s, replaced by n − s where it is above HALF_N (R232). -/
def lowS (s : Nat) : Nat := if s > halfN then orderN - s else s

/-- r of the nonce `k`: R.x mod n for R = k·G; `none` for R = O (R232). -/
def signR (k : Nat) : Option Nat :=
  match pointMul k pointG with
  | .infinity => none
  | .affine x _ => some (x % orderN)

/-- s of the nonce `k` before the low-S replacement: k⁻¹ · (z + r·e) mod n (R232). -/
def signS (e z k r : Nat) : Nat := mulMod orderN (invMod orderN k) (z + r * e)

/-- The signature the nonce `k` gives, `none` where k is not in [1, n−1] or r or s is 0 (R231, R232). -/
def signWith (e z k : Nat) : Option (Nat × Nat) :=
  if 1 ≤ k ∧ k < orderN then
    match signR k with
    | none => none
    | some r =>
      if r = 0 then none
      else if signS e z k r = 0 then none
      else some (r, lowS (signS e z k r))
  else none

/-- One turn of ESIGN's loop: the signature, or the stream after the rejected candidate (R231, R232). -/
def signTurn (e z : Nat) (st : Nonce) : Except Nonce (Nat × Nat) :=
  match signWith e z (intBe (nonceValue st)) with
  | some rs => .ok rs
  | none => .error (nonceReject st)

/-! ## Verification -/

/-- A scalar in [1, n−1] (R234). -/
def scalarInRange (v : Nat) : Bool := decide (1 ≤ v) && decide (v < orderN)

/-- X = u1·G + u2·P with u1 = z·s⁻¹ and u2 = r·s⁻¹ mod n (R234, steps 2 and 3). -/
def verifyPoint (q : Point) (z r s : Nat) : Point :=
  let w := invMod orderN s
  pointAdd (pointMul (mulMod orderN z w) pointG) (pointMul (mulMod orderN r w) q)

/-- `VERIFY(P, z, r, s)` (R234). It does not check low-S. -/
def verify (q : Point) (z r s : Nat) : Bool :=
  if scalarInRange r && scalarInRange s then
    match verifyPoint q z r s with
    | .infinity => false
    | .affine x _ => x % orderN == r
  else false

/-! ## Decoders -/

/-- The bytes of `b` from `i` to `j − 1`: `b[i..j)` (R12). -/
def slice (b : Bytes) (i j : Nat) : Bytes := (b.take j).drop i

/-- The uncompressed form 04‖X‖Y (R240). -/
def secUncompressed (b : Bytes) : Option Point :=
  let x := intBe (slice b 1 33)
  let y := intBe (slice b 33 65)
  if x < primeP ∧ y < primeP ∧ curveEquation x y = true then some (.affine x y) else none

/-- The compressed form 02‖X or 03‖X, the root's parity that of the prefix (R240). -/
def secCompressed (b : Bytes) : Option Point :=
  let x := intBe (slice b 1 33)
  if x < primeP then
    let alpha := (x * x * x + curveB) % primeP
    let beta := sqrtCandidate alpha
    if mulMod primeP beta beta = alpha then
      some (.affine x (if beta % 2 = (b.getD 0 0).toNat % 2 then beta else primeP - beta))
    else none
  else none

/-- `SEC_DECODE(b)` (R240); `none` is FAIL. -/
def secDecode (b : Bytes) : Option Point :=
  if b.length = 65 ∧ b.getD 0 0 = 0x04 then secUncompressed b
  else if b.length = 33 ∧ (b.getD 0 0 = 0x02 ∨ b.getD 0 0 = 0x03) then secCompressed b
  else none

/-- An integer of a DER signature is not negative and has no needless padding (R241). -/
def derIntegerOk (x : Bytes) : Bool :=
  decide ((x.getD 0 0).toNat < 0x80) &&
  !(decide (1 < x.length) && x.getD 0 0 == 0x00 && decide ((x.getD 1 0).toNat < 0x80))

/-- `DER_DECODE(d)`, strict, its checks in the order of R241; `none` is FAIL. -/
def derDecode (d : Bytes) : Option (Nat × Nat) :=
  let len := d.length
  let lr := (d.getD 3 0).toNat
  let ls := (d.getD (5 + lr) 0).toNat
  let r := slice d 4 (4 + lr)
  let s := slice d (6 + lr) (6 + lr + ls)
  if len < 8 ∨ len > 72 then none
  else if d.getD 0 0 ≠ 0x30 ∨ (d.getD 1 0).toNat ≠ len - 2 then none
  else if d.getD 2 0 ≠ 0x02 then none
  else if lr < 1 ∨ lr > 33 ∨ 4 + lr + 2 > len then none
  else if d.getD (4 + lr) 0 ≠ 0x02 then none
  else if ls < 1 ∨ ls > 33 ∨ 6 + lr + ls ≠ len then none
  else if !(derIntegerOk r && derIntegerOk s) then none
  else some (intBe r, intBe s)

end Sys2Proof.Machine
end

