-- ==== Sys2Proof/Machine/EcdsaCmds.lean ====
section
/-! DEFINITION. The ECDSA unit's commands (43_ecdsa.md R232, R233). -/

namespace Sys2Proof.Machine

/-- The state of the candidate stream: where the last turn of this ESIGN left it, or its start (R231). -/
def nonceState (s : State) (e z : Nat) : Nonce := s.nonce.getD (nonceStart e z)

/-- ESIGN (R232), one candidate a step: an accepted one completes the command with r and s written, a rejected one
leaves the engine BUSY with the stream advanced (log entry 6). RD = RC is illegal (R104(f)). -/
def execEsign (rd rc ra rb : Fin 16) (s : State) : Result :=
  if rd = rc then raise s .illegal
  else if readB s ra = 0 ∨ readB s ra ≥ orderN then raise s .key
  else
    match signTurn (readB s ra) (readB s rb) (nonceState s (readB s ra) (readB s rb)) with
    | .ok (r, sv) => finish (writeB (writeB s rd r) rc sv) false
    | .error st => .next { s with nonce := some st }

/-- EVERIFY (R233): ENOTCURVE before EKEY; a bad signature is a result. -/
def execEverify (pd : Fin 8) (ra rb rc : Fin 16) (s : State) : Result :=
  validPoint s pd fun q =>
    if pinfBit s pd then raise s .key else finish s (verify q (readB s ra) (readB s rb) (readB s rc))

end Sys2Proof.Machine
end

