-- ==== Sys2Proof/Machine/FieldCmds.lean ====
section
/-! DEFINITION. The field unit's commands, with NOP, MOV and LDK (41_field.md R160 to R181): one meaning each. -/

namespace Sys2Proof.Machine

/-! ## Shared shapes -/

/-- `B[rd] <- f(a, b)` of two range-checked operands. -/
def fieldOp2 (m : Nat) (f : Nat → Nat → Nat) (rd ra rb : Fin 16) (s : State) : Result :=
  rangeChecked2 m s ra rb fun a b => finish (writeB s rd (f a b)) false

/-- `B[rd] <- a⁻¹ mod m`, zero refused (R170, R178). -/
def fieldInv (m : Nat) (rd ra : Fin 16) (s : State) : Result :=
  invertible m s ra fun a => finish (writeB s rd (invMod m a)) false

/-- `B[rd] <- a^e mod m`, the base range-checked, the exponent not (R171, R179). -/
def fieldPow (m : Nat) (rd ra rb : Fin 16) (s : State) : Result :=
  rangeChecked m s ra fun a => finish (writeB s rd (powMod m a (readB s rb))) false

/-- `result(a = b)` of two range-checked operands (R173, R180). -/
def fieldEq (m : Nat) (ra rb : Fin 16) (s : State) : Result :=
  rangeChecked2 m s ra rb fun a b => finish s (resEqual a b)

/-- `B[rd] <- B[ra] mod m`, no range check (R174, R181). -/
def fieldRed (m : Nat) (rd ra : Fin 16) (s : State) : Result := finish (writeB s rd (readB s ra % m)) false

/-! ## Control, moves and constants -/

/-- NOP (R164). -/
def execNop (s : State) : Result := finish s false

/-- MOV (R165). -/
def execMov (rd ra : Fin 16) (s : State) : Result := finish (writeB s rd (readB s ra)) false

/-- LDK (R166); a selector above 6 is illegal (R104(e)). -/
def execLdk (rd k : Fin 16) (s : State) : Result :=
  match constantTable k.val with
  | none => raise s .illegal
  | some v => finish (writeB s rd v) false

/-! ## Commands mod p -/

/-- FADD (R167). -/
def execFadd (rd ra rb : Fin 16) (s : State) : Result := fieldOp2 primeP (addMod primeP) rd ra rb s

/-- FSUB (R168). -/
def execFsub (rd ra rb : Fin 16) (s : State) : Result := fieldOp2 primeP (subMod primeP) rd ra rb s

/-- FMUL (R169). -/
def execFmul (rd ra rb : Fin 16) (s : State) : Result := fieldOp2 primeP (mulMod primeP) rd ra rb s

/-- FINV (R170). -/
def execFinv (rd ra : Fin 16) (s : State) : Result := fieldInv primeP rd ra s

/-- FPOW (R171). -/
def execFpow (rd ra rb : Fin 16) (s : State) : Result := fieldPow primeP rd ra rb s

/-- FSQRT (R172): the candidate is written whether or not it is a root. -/
def execFsqrt (rd ra : Fin 16) (s : State) : Result :=
  rangeChecked primeP s ra fun a => finish (writeB s rd (sqrtCandidate a)) (resIsRoot (sqrtCandidate a) a)

/-- FEQ (R173). -/
def execFeq (ra rb : Fin 16) (s : State) : Result := fieldEq primeP ra rb s

/-- FRED (R174). -/
def execFred (rd ra : Fin 16) (s : State) : Result := fieldRed primeP rd ra s

/-! ## Commands mod n -/

/-- NADD (R175). -/
def execNadd (rd ra rb : Fin 16) (s : State) : Result := fieldOp2 orderN (addMod orderN) rd ra rb s

/-- NSUB (R176). -/
def execNsub (rd ra rb : Fin 16) (s : State) : Result := fieldOp2 orderN (subMod orderN) rd ra rb s

/-- NMUL (R177). -/
def execNmul (rd ra rb : Fin 16) (s : State) : Result := fieldOp2 orderN (mulMod orderN) rd ra rb s

/-- NINV (R178). -/
def execNinv (rd ra : Fin 16) (s : State) : Result := fieldInv orderN rd ra s

/-- NPOW (R179). -/
def execNpow (rd ra rb : Fin 16) (s : State) : Result := fieldPow orderN rd ra rb s

/-- NEQ (R180). -/
def execNeq (ra rb : Fin 16) (s : State) : Result := fieldEq orderN ra rb s

/-- NRED (R181). -/
def execNred (rd ra : Fin 16) (s : State) : Result := fieldRed orderN rd ra s

end Sys2Proof.Machine
end

