-- ==== Sys2Proof/WellFormed.lean ====
section
/-! DEFINITION. Which instructions have an encoding: the LDK selector is at most 6 and ESIGN names two different
destinations (30_encoding.md R104(e), (f)); a push carries as many bytes as its first byte or its length field can say (R109). -/

namespace Sys2Proof

/-- `i` is well formed: some encoding of rules R101 and R109 stands for it. -/
def Instr.wf (i : Instr) : Bool :=
  match i with
  | .nop => true
  | .mov _ _ => true
  | .ldk _ k => decide (k.val ≤ 6)
  | .fadd _ _ _ => true
  | .fsub _ _ _ => true
  | .fmul _ _ _ => true
  | .finv _ _ => true
  | .fpow _ _ _ => true
  | .fsqrt _ _ => true
  | .feq _ _ => true
  | .fred _ _ => true
  | .nadd _ _ _ => true
  | .nsub _ _ _ => true
  | .nmul _ _ _ => true
  | .ninv _ _ => true
  | .npow _ _ _ => true
  | .neq _ _ => true
  | .nred _ _ => true
  | .padd _ _ _ => true
  | .pdbl _ _ => true
  | .pmul _ _ _ => true
  | .pldg _ => true
  | .pchk _ => true
  | .pmov _ _ => true
  | .shainit => true
  | .shacomp => true
  | .esign rd rc _ _ => decide (rd ≠ rc)
  | .everify _ _ _ _ => true
  | .sighash _ => true
  | .script => true
  | .op0 => true
  | .pushBytes1 d => d.length == 1
  | .pushBytes2 d => d.length == 2
  | .pushBytes3 d => d.length == 3
  | .pushBytes4 d => d.length == 4
  | .pushBytes5 d => d.length == 5
  | .pushBytes6 d => d.length == 6
  | .pushBytes7 d => d.length == 7
  | .pushBytes8 d => d.length == 8
  | .pushBytes9 d => d.length == 9
  | .pushBytes10 d => d.length == 10
  | .pushBytes11 d => d.length == 11
  | .pushBytes12 d => d.length == 12
  | .pushBytes13 d => d.length == 13
  | .pushBytes14 d => d.length == 14
  | .pushBytes15 d => d.length == 15
  | .pushBytes16 d => d.length == 16
  | .pushBytes17 d => d.length == 17
  | .pushBytes18 d => d.length == 18
  | .pushBytes19 d => d.length == 19
  | .pushBytes20 d => d.length == 20
  | .pushBytes21 d => d.length == 21
  | .pushBytes22 d => d.length == 22
  | .pushBytes23 d => d.length == 23
  | .pushBytes24 d => d.length == 24
  | .pushBytes25 d => d.length == 25
  | .pushBytes26 d => d.length == 26
  | .pushBytes27 d => d.length == 27
  | .pushBytes28 d => d.length == 28
  | .pushBytes29 d => d.length == 29
  | .pushBytes30 d => d.length == 30
  | .pushBytes31 d => d.length == 31
  | .pushBytes32 d => d.length == 32
  | .pushBytes33 d => d.length == 33
  | .pushBytes34 d => d.length == 34
  | .pushBytes35 d => d.length == 35
  | .pushBytes36 d => d.length == 36
  | .pushBytes37 d => d.length == 37
  | .pushBytes38 d => d.length == 38
  | .pushBytes39 d => d.length == 39
  | .pushBytes40 d => d.length == 40
  | .pushBytes41 d => d.length == 41
  | .pushBytes42 d => d.length == 42
  | .pushBytes43 d => d.length == 43
  | .pushBytes44 d => d.length == 44
  | .pushBytes45 d => d.length == 45
  | .pushBytes46 d => d.length == 46
  | .pushBytes47 d => d.length == 47
  | .pushBytes48 d => d.length == 48
  | .pushBytes49 d => d.length == 49
  | .pushBytes50 d => d.length == 50
  | .pushBytes51 d => d.length == 51
  | .pushBytes52 d => d.length == 52
  | .pushBytes53 d => d.length == 53
  | .pushBytes54 d => d.length == 54
  | .pushBytes55 d => d.length == 55
  | .pushBytes56 d => d.length == 56
  | .pushBytes57 d => d.length == 57
  | .pushBytes58 d => d.length == 58
  | .pushBytes59 d => d.length == 59
  | .pushBytes60 d => d.length == 60
  | .pushBytes61 d => d.length == 61
  | .pushBytes62 d => d.length == 62
  | .pushBytes63 d => d.length == 63
  | .pushBytes64 d => d.length == 64
  | .pushBytes65 d => d.length == 65
  | .pushBytes66 d => d.length == 66
  | .pushBytes67 d => d.length == 67
  | .pushBytes68 d => d.length == 68
  | .pushBytes69 d => d.length == 69
  | .pushBytes70 d => d.length == 70
  | .pushBytes71 d => d.length == 71
  | .pushBytes72 d => d.length == 72
  | .pushBytes73 d => d.length == 73
  | .pushBytes74 d => d.length == 74
  | .pushBytes75 d => d.length == 75
  | .opPushData1 d => decide (d.length < 2 ^ 8)
  | .opPushData2 d => decide (d.length < 2 ^ 16)
  | .opPushData4 d => decide (d.length < 2 ^ 32)
  | .unsupported4F => true
  | .unsupported50 => true
  | .op1 => true
  | .op2 => true
  | .op3 => true
  | .op4 => true
  | .op5 => true
  | .op6 => true
  | .op7 => true
  | .op8 => true
  | .op9 => true
  | .op10 => true
  | .op11 => true
  | .op12 => true
  | .op13 => true
  | .op14 => true
  | .op15 => true
  | .op16 => true
  | .unsupported61 => true
  | .unsupported62 => true
  | .unsupported63 => true
  | .unsupported64 => true
  | .unsupported65 => true
  | .unsupported66 => true
  | .unsupported67 => true
  | .unsupported68 => true
  | .unsupported69 => true
  | .unsupported6A => true
  | .unsupported6B => true
  | .unsupported6C => true
  | .unsupported6D => true
  | .unsupported6E => true
  | .unsupported6F => true
  | .unsupported70 => true
  | .unsupported71 => true
  | .unsupported72 => true
  | .unsupported73 => true
  | .unsupported74 => true
  | .unsupported75 => true
  | .opDup => true
  | .unsupported77 => true
  | .unsupported78 => true
  | .unsupported79 => true
  | .unsupported7A => true
  | .unsupported7B => true
  | .unsupported7C => true
  | .unsupported7D => true
  | .unsupported7E => true
  | .unsupported7F => true
  | .unsupported80 => true
  | .unsupported81 => true
  | .unsupported82 => true
  | .unsupported83 => true
  | .unsupported84 => true
  | .unsupported85 => true
  | .unsupported86 => true
  | .unsupported87 => true
  | .opEqualVerify => true
  | .unsupported89 => true
  | .unsupported8A => true
  | .unsupported8B => true
  | .unsupported8C => true
  | .unsupported8D => true
  | .unsupported8E => true
  | .unsupported8F => true
  | .unsupported90 => true
  | .unsupported91 => true
  | .unsupported92 => true
  | .unsupported93 => true
  | .unsupported94 => true
  | .unsupported95 => true
  | .unsupported96 => true
  | .unsupported97 => true
  | .unsupported98 => true
  | .unsupported99 => true
  | .unsupported9A => true
  | .unsupported9B => true
  | .unsupported9C => true
  | .unsupported9D => true
  | .unsupported9E => true
  | .unsupported9F => true
  | .unsupportedA0 => true
  | .unsupportedA1 => true
  | .unsupportedA2 => true
  | .unsupportedA3 => true
  | .unsupportedA4 => true
  | .unsupportedA5 => true
  | .unsupportedA6 => true
  | .unsupportedA7 => true
  | .unsupportedA8 => true
  | .opHash160 => true
  | .unsupportedAA => true
  | .unsupportedAB => true
  | .opCheckSig => true
  | .unsupportedAD => true
  | .unsupportedAE => true
  | .unsupportedAF => true
  | .unsupportedB0 => true
  | .unsupportedB1 => true
  | .unsupportedB2 => true
  | .unsupportedB3 => true
  | .unsupportedB4 => true
  | .unsupportedB5 => true
  | .unsupportedB6 => true
  | .unsupportedB7 => true
  | .unsupportedB8 => true
  | .unsupportedB9 => true
  | .unsupportedBA => true
  | .unsupportedBB => true
  | .unsupportedBC => true
  | .unsupportedBD => true
  | .unsupportedBE => true
  | .unsupportedBF => true
  | .unsupportedC0 => true
  | .unsupportedC1 => true
  | .unsupportedC2 => true
  | .unsupportedC3 => true
  | .unsupportedC4 => true
  | .unsupportedC5 => true
  | .unsupportedC6 => true
  | .unsupportedC7 => true
  | .unsupportedC8 => true
  | .unsupportedC9 => true
  | .unsupportedCA => true
  | .unsupportedCB => true
  | .unsupportedCC => true
  | .unsupportedCD => true
  | .unsupportedCE => true
  | .unsupportedCF => true
  | .unsupportedD0 => true
  | .unsupportedD1 => true
  | .unsupportedD2 => true
  | .unsupportedD3 => true
  | .unsupportedD4 => true
  | .unsupportedD5 => true
  | .unsupportedD6 => true
  | .unsupportedD7 => true
  | .unsupportedD8 => true
  | .unsupportedD9 => true
  | .unsupportedDA => true
  | .unsupportedDB => true
  | .unsupportedDC => true
  | .unsupportedDD => true
  | .unsupportedDE => true
  | .unsupportedDF => true
  | .unsupportedE0 => true
  | .unsupportedE1 => true
  | .unsupportedE2 => true
  | .unsupportedE3 => true
  | .unsupportedE4 => true
  | .unsupportedE5 => true
  | .unsupportedE6 => true
  | .unsupportedE7 => true
  | .unsupportedE8 => true
  | .unsupportedE9 => true
  | .unsupportedEA => true
  | .unsupportedEB => true
  | .unsupportedEC => true
  | .unsupportedED => true
  | .unsupportedEE => true
  | .unsupportedEF => true
  | .unsupportedF0 => true
  | .unsupportedF1 => true
  | .unsupportedF2 => true
  | .unsupportedF3 => true
  | .unsupportedF4 => true
  | .unsupportedF5 => true
  | .unsupportedF6 => true
  | .unsupportedF7 => true
  | .unsupportedF8 => true
  | .unsupportedF9 => true
  | .unsupportedFA => true
  | .unsupportedFB => true
  | .unsupportedFC => true
  | .unsupportedFD => true
  | .unsupportedFE => true
  | .unsupportedFF => true

end Sys2Proof
end

