-- ==== Sys2Proof/Decode.lean ====
section
/-! DEFINITION. The decoders: of a command word (30_encoding.md R100 to R106) and of a script command
(R109, R110, 44_script.md R261), total, each rejection with a name; and the encoder after them. -/

namespace Sys2Proof

open Sys2Proof.Machine

/-- Why bits stand for no instruction. The first six make a command word illegal (R104); the others fail a
script's parse (R261). -/
inductive DecodeError where
  /-- R104(b): bits 31:24 are not zero. -/
  | rsvNonZero
  /-- R104(a), R105: OP is in no row of R101. -/
  | reservedOpcode
  /-- R104(c): a field the command does not use is not zero. -/
  | sbzNonZero
  /-- R104(d): bit 3 of a point-index field is 1. -/
  | pointIndexBit3
  /-- R104(e): LDK with k > 6. -/
  | ldkSelector
  /-- R104(f): ESIGN with RD = RC. -/
  | esignSameDest
  /-- R261: no byte is left to decode. -/
  | endOfScript
  /-- R261: a PUSHDATA length field is cut short. -/
  | truncatedLength
  /-- R261: a push has fewer data bytes than its length. -/
  | truncatedPush
deriving DecidableEq, Repr

/-! ## Command words -/

/-- The 4-bit field of a command word whose lowest bit is `lo` (R100). -/
def commandField (w : Word) (lo : Nat) : Fin 16 := ⟨w.toNat / 2 ^ lo % 16, Nat.mod_lt _ (by decide)⟩

/-- OP, bits 7:0 (R100). -/
def commandOp (w : Word) : Nat := w.toNat % 256

/-- RSV, bits 31:24 (R100). -/
def commandRsv (w : Word) : Nat := w.toNat / 2 ^ 24

/-- The command `r` if every field it does not use is zero (R103, R104(c)). -/
def unused (fields : List (Fin 16)) (r : Except DecodeError Instr) : Except DecodeError Instr :=
  if fields.all (fun f => f == 0) then r else .error .sbzNonZero

/-- A point index: bits 2:0 of its field, bit 3 zero (R102, R104(d)). -/
def pointIndex (f : Fin 16) : Except DecodeError (Fin 8) :=
  if h : f.val < 8 then .ok ⟨f.val, h⟩ else .error .pointIndexBit3

/-- LDK's selector, at most 6 (R104(e)). -/
def decodeLdk (rd k : Fin 16) : Except DecodeError Instr :=
  if k.val ≤ 6 then .ok (.ldk rd k) else .error .ldkSelector

/-- ESIGN's two destinations differ (R104(f)). -/
def decodeEsign (rd rc ra rb : Fin 16) : Except DecodeError Instr :=
  if rd = rc then .error .esignSameDest else .ok (.esign rd rc ra rb)

/-- The row of R101 that OP selects, with the fields' checks in the order of R106. -/
def decodeFields (op : Nat) (rd ra rb rc : Fin 16) : Except DecodeError Instr :=
  match op with
  | 0x00 => unused [rd, ra, rb, rc] (.ok .nop)
  | 0x01 => unused [rb, rc] (.ok (.mov rd ra))
  | 0x02 => unused [rb, rc] (decodeLdk rd ra)
  | 0x10 => unused [rc] (.ok (.fadd rd ra rb))
  | 0x11 => unused [rc] (.ok (.fsub rd ra rb))
  | 0x12 => unused [rc] (.ok (.fmul rd ra rb))
  | 0x13 => unused [rb, rc] (.ok (.finv rd ra))
  | 0x14 => unused [rc] (.ok (.fpow rd ra rb))
  | 0x15 => unused [rb, rc] (.ok (.fsqrt rd ra))
  | 0x16 => unused [rd, rc] (.ok (.feq ra rb))
  | 0x17 => unused [rb, rc] (.ok (.fred rd ra))
  | 0x18 => unused [rc] (.ok (.nadd rd ra rb))
  | 0x19 => unused [rc] (.ok (.nsub rd ra rb))
  | 0x1A => unused [rc] (.ok (.nmul rd ra rb))
  | 0x1B => unused [rb, rc] (.ok (.ninv rd ra))
  | 0x1C => unused [rc] (.ok (.npow rd ra rb))
  | 0x1E => unused [rd, rc] (.ok (.neq ra rb))
  | 0x1F => unused [rb, rc] (.ok (.nred rd ra))
  | 0x20 => unused [rc] (do
      let pd ← pointIndex rd
      let pa ← pointIndex ra
      let pb ← pointIndex rb
      pure (.padd pd pa pb))
  | 0x21 => unused [rb, rc] (do
      let pd ← pointIndex rd
      let pa ← pointIndex ra
      pure (.pdbl pd pa))
  | 0x22 => unused [rc] (do
      let pd ← pointIndex rd
      let pa ← pointIndex ra
      pure (.pmul pd pa rb))
  | 0x23 => unused [ra, rb, rc] (do
      let pd ← pointIndex rd
      pure (.pldg pd))
  | 0x24 => unused [rd, rb, rc] (do
      let pa ← pointIndex ra
      pure (.pchk pa))
  | 0x25 => unused [rb, rc] (do
      let pd ← pointIndex rd
      let pa ← pointIndex ra
      pure (.pmov pd pa))
  | 0x30 => unused [rd, ra, rb, rc] (.ok .shainit)
  | 0x31 => unused [rd, ra, rb, rc] (.ok .shacomp)
  | 0x40 => decodeEsign rd rc ra rb
  | 0x41 => do
      let pd ← pointIndex rd
      pure (.everify pd ra rb rc)
  | 0x50 => unused [ra, rb, rc] (.ok (.sighash rd))
  | 0x51 => unused [rd, ra, rb, rc] (.ok .script)
  | _ => .error .reservedOpcode

/-- The decoding procedure of R106: total, every word is illegal or exactly one command. -/
def decodeCommand (w : Word) : Except DecodeError Instr :=
  if commandRsv w ≠ 0 then .error .rsvNonZero
  else decodeFields (commandOp w) (commandField w 8) (commandField w 12) (commandField w 16) (commandField w 20)

/-! ## Script commands -/

/-- What a first byte of a script command says of the bytes after it (R109). -/
inductive ScriptRow where
  /-- PUSHBYTES_n: n data bytes follow. -/
  | push (n : Nat) (mk : Bytes → Instr)
  /-- OP_PUSHDATA: an n-byte little-endian length L follows, then L data bytes. -/
  | pushData (n : Nat) (mk : Bytes → Instr)
  /-- An opcode: nothing follows. -/
  | op (i : Instr)

/-- The rows of first bytes 00h to 0Fh (R110). -/
def scriptRows0 : List ScriptRow := [
  .op .op0, .push 1 .pushBytes1, .push 2 .pushBytes2, .push 3 .pushBytes3,
  .push 4 .pushBytes4, .push 5 .pushBytes5, .push 6 .pushBytes6, .push 7 .pushBytes7,
  .push 8 .pushBytes8, .push 9 .pushBytes9, .push 10 .pushBytes10, .push 11 .pushBytes11,
  .push 12 .pushBytes12, .push 13 .pushBytes13, .push 14 .pushBytes14, .push 15 .pushBytes15]

/-- The rows of first bytes 10h to 1Fh (R110). -/
def scriptRows1 : List ScriptRow := [
  .push 16 .pushBytes16, .push 17 .pushBytes17, .push 18 .pushBytes18, .push 19 .pushBytes19,
  .push 20 .pushBytes20, .push 21 .pushBytes21, .push 22 .pushBytes22, .push 23 .pushBytes23,
  .push 24 .pushBytes24, .push 25 .pushBytes25, .push 26 .pushBytes26, .push 27 .pushBytes27,
  .push 28 .pushBytes28, .push 29 .pushBytes29, .push 30 .pushBytes30, .push 31 .pushBytes31]

/-- The rows of first bytes 20h to 2Fh (R110). -/
def scriptRows2 : List ScriptRow := [
  .push 32 .pushBytes32, .push 33 .pushBytes33, .push 34 .pushBytes34, .push 35 .pushBytes35,
  .push 36 .pushBytes36, .push 37 .pushBytes37, .push 38 .pushBytes38, .push 39 .pushBytes39,
  .push 40 .pushBytes40, .push 41 .pushBytes41, .push 42 .pushBytes42, .push 43 .pushBytes43,
  .push 44 .pushBytes44, .push 45 .pushBytes45, .push 46 .pushBytes46, .push 47 .pushBytes47]

/-- The rows of first bytes 30h to 3Fh (R110). -/
def scriptRows3 : List ScriptRow := [
  .push 48 .pushBytes48, .push 49 .pushBytes49, .push 50 .pushBytes50, .push 51 .pushBytes51,
  .push 52 .pushBytes52, .push 53 .pushBytes53, .push 54 .pushBytes54, .push 55 .pushBytes55,
  .push 56 .pushBytes56, .push 57 .pushBytes57, .push 58 .pushBytes58, .push 59 .pushBytes59,
  .push 60 .pushBytes60, .push 61 .pushBytes61, .push 62 .pushBytes62, .push 63 .pushBytes63]

/-- The rows of first bytes 40h to 4Fh (R110). -/
def scriptRows4 : List ScriptRow := [
  .push 64 .pushBytes64, .push 65 .pushBytes65, .push 66 .pushBytes66, .push 67 .pushBytes67,
  .push 68 .pushBytes68, .push 69 .pushBytes69, .push 70 .pushBytes70, .push 71 .pushBytes71,
  .push 72 .pushBytes72, .push 73 .pushBytes73, .push 74 .pushBytes74, .push 75 .pushBytes75,
  .pushData 1 .opPushData1, .pushData 2 .opPushData2, .pushData 4 .opPushData4, .op .unsupported4F]

/-- The rows of first bytes 50h to 5Fh (R110). -/
def scriptRows5 : List ScriptRow := [
  .op .unsupported50, .op .op1, .op .op2, .op .op3,
  .op .op4, .op .op5, .op .op6, .op .op7,
  .op .op8, .op .op9, .op .op10, .op .op11,
  .op .op12, .op .op13, .op .op14, .op .op15]

/-- The rows of first bytes 60h to 6Fh (R110). -/
def scriptRows6 : List ScriptRow := [
  .op .op16, .op .unsupported61, .op .unsupported62, .op .unsupported63,
  .op .unsupported64, .op .unsupported65, .op .unsupported66, .op .unsupported67,
  .op .unsupported68, .op .unsupported69, .op .unsupported6A, .op .unsupported6B,
  .op .unsupported6C, .op .unsupported6D, .op .unsupported6E, .op .unsupported6F]

/-- The rows of first bytes 70h to 7Fh (R110). -/
def scriptRows7 : List ScriptRow := [
  .op .unsupported70, .op .unsupported71, .op .unsupported72, .op .unsupported73,
  .op .unsupported74, .op .unsupported75, .op .opDup, .op .unsupported77,
  .op .unsupported78, .op .unsupported79, .op .unsupported7A, .op .unsupported7B,
  .op .unsupported7C, .op .unsupported7D, .op .unsupported7E, .op .unsupported7F]

/-- The rows of first bytes 80h to 8Fh (R110). -/
def scriptRows8 : List ScriptRow := [
  .op .unsupported80, .op .unsupported81, .op .unsupported82, .op .unsupported83,
  .op .unsupported84, .op .unsupported85, .op .unsupported86, .op .unsupported87,
  .op .opEqualVerify, .op .unsupported89, .op .unsupported8A, .op .unsupported8B,
  .op .unsupported8C, .op .unsupported8D, .op .unsupported8E, .op .unsupported8F]

/-- The rows of first bytes 90h to 9Fh (R110). -/
def scriptRows9 : List ScriptRow := [
  .op .unsupported90, .op .unsupported91, .op .unsupported92, .op .unsupported93,
  .op .unsupported94, .op .unsupported95, .op .unsupported96, .op .unsupported97,
  .op .unsupported98, .op .unsupported99, .op .unsupported9A, .op .unsupported9B,
  .op .unsupported9C, .op .unsupported9D, .op .unsupported9E, .op .unsupported9F]

/-- The rows of first bytes A0h to AFh (R110). -/
def scriptRowsA : List ScriptRow := [
  .op .unsupportedA0, .op .unsupportedA1, .op .unsupportedA2, .op .unsupportedA3,
  .op .unsupportedA4, .op .unsupportedA5, .op .unsupportedA6, .op .unsupportedA7,
  .op .unsupportedA8, .op .opHash160, .op .unsupportedAA, .op .unsupportedAB,
  .op .opCheckSig, .op .unsupportedAD, .op .unsupportedAE, .op .unsupportedAF]

/-- The rows of first bytes B0h to BFh (R110). -/
def scriptRowsB : List ScriptRow := [
  .op .unsupportedB0, .op .unsupportedB1, .op .unsupportedB2, .op .unsupportedB3,
  .op .unsupportedB4, .op .unsupportedB5, .op .unsupportedB6, .op .unsupportedB7,
  .op .unsupportedB8, .op .unsupportedB9, .op .unsupportedBA, .op .unsupportedBB,
  .op .unsupportedBC, .op .unsupportedBD, .op .unsupportedBE, .op .unsupportedBF]

/-- The rows of first bytes C0h to CFh (R110). -/
def scriptRowsC : List ScriptRow := [
  .op .unsupportedC0, .op .unsupportedC1, .op .unsupportedC2, .op .unsupportedC3,
  .op .unsupportedC4, .op .unsupportedC5, .op .unsupportedC6, .op .unsupportedC7,
  .op .unsupportedC8, .op .unsupportedC9, .op .unsupportedCA, .op .unsupportedCB,
  .op .unsupportedCC, .op .unsupportedCD, .op .unsupportedCE, .op .unsupportedCF]

/-- The rows of first bytes D0h to DFh (R110). -/
def scriptRowsD : List ScriptRow := [
  .op .unsupportedD0, .op .unsupportedD1, .op .unsupportedD2, .op .unsupportedD3,
  .op .unsupportedD4, .op .unsupportedD5, .op .unsupportedD6, .op .unsupportedD7,
  .op .unsupportedD8, .op .unsupportedD9, .op .unsupportedDA, .op .unsupportedDB,
  .op .unsupportedDC, .op .unsupportedDD, .op .unsupportedDE, .op .unsupportedDF]

/-- The rows of first bytes E0h to EFh (R110). -/
def scriptRowsE : List ScriptRow := [
  .op .unsupportedE0, .op .unsupportedE1, .op .unsupportedE2, .op .unsupportedE3,
  .op .unsupportedE4, .op .unsupportedE5, .op .unsupportedE6, .op .unsupportedE7,
  .op .unsupportedE8, .op .unsupportedE9, .op .unsupportedEA, .op .unsupportedEB,
  .op .unsupportedEC, .op .unsupportedED, .op .unsupportedEE, .op .unsupportedEF]

/-- The rows of first bytes F0h to FFh (R110). -/
def scriptRowsF : List ScriptRow := [
  .op .unsupportedF0, .op .unsupportedF1, .op .unsupportedF2, .op .unsupportedF3,
  .op .unsupportedF4, .op .unsupportedF5, .op .unsupportedF6, .op .unsupportedF7,
  .op .unsupportedF8, .op .unsupportedF9, .op .unsupportedFA, .op .unsupportedFB,
  .op .unsupportedFC, .op .unsupportedFD, .op .unsupportedFE, .op .unsupportedFF]

/-- The script opcode map of R110, row b for the first byte b. -/
def scriptRows : List ScriptRow :=
  scriptRows0 ++ scriptRows1 ++ scriptRows2 ++ scriptRows3 ++ scriptRows4 ++ scriptRows5 ++ scriptRows6 ++
  scriptRows7 ++ scriptRows8 ++ scriptRows9 ++ scriptRowsA ++ scriptRowsB ++ scriptRowsC ++ scriptRowsD ++
  scriptRowsE ++ scriptRowsF

/-- The first `k` bytes and the rest, or `e` where there are fewer. -/
def splitBytes (k : Nat) (bs : Bytes) (e : DecodeError) : Except DecodeError (Bytes × Bytes) :=
  if k ≤ bs.length then .ok (bs.take k, bs.drop k) else .error e

/-- The script command a row stands for, read from the bytes after its first byte, and what is left. -/
def decodeRow (row : ScriptRow) (rest : Bytes) : Except DecodeError (Instr × Bytes) :=
  match row with
  | .push n mk => do
      let d ← splitBytes n rest .truncatedPush
      pure (mk d.1, d.2)
  | .pushData n mk => do
      let l ← splitBytes n rest .truncatedLength
      let d ← splitBytes (intLe l.1) l.2 .truncatedPush
      pure (mk d.1, d.2)
  | .op i => .ok (i, rest)

/-- One turn of the loop of R261: the first command of a byte string, and the bytes after it. -/
def decodeScript : Bytes → Except DecodeError (Instr × Bytes)
  | [] => .error .endOfScript
  | b :: rest => decodeRow (scriptRows.getD b.toNat (.op .op0)) rest

/-- `SCRIPT_PARSE` with at most `fuel` commands; every command takes a byte, so a body's length is enough. -/
def parseScriptFuel : Nat → Bytes → Except DecodeError (List Instr)
  | _, [] => .ok []
  | 0, _ :: _ => .error .endOfScript
  | fuel + 1, b :: bs => do
      let c ← decodeScript (b :: bs)
      let more ← parseScriptFuel fuel c.2
      pure (c.1 :: more)

/-- `SCRIPT_PARSE(body)` (R261): the list of commands of a script body, or why it is malformed. -/
def parseScript (body : Bytes) : Except DecodeError (List Instr) := parseScriptFuel body.length body

/-! ## The encoder -/

/-- The two encodings of 30_encoding.md: a 32-bit command word, or the bytes of a script command. -/
inductive Encoding where
  | command (w : Word)
  | script (bytes : Bytes)
deriving DecidableEq, Repr

/-- `OP | RD << 8 | RA << 12 | RB << 16 | RC << 20` with RSV = 0 (R100). -/
def commandWord (op : Nat) (rd ra rb rc : Fin 16) : Word :=
  BitVec.ofNat 32 (op % 256 + rd.val * 2 ^ 8 + ra.val * 2 ^ 12 + rb.val * 2 ^ 16 + rc.val * 2 ^ 20)

/-- A point index in its 4-bit field, bit 3 zero (R102). -/
def pointField (i : Fin 8) : Fin 16 := ⟨i.val, Nat.lt_trans i.isLt (by decide)⟩

/-- The encoding of a well-formed instruction, from the tables of R101 and R109. -/
def encode (i : Instr) : Encoding :=
  match i with
  | .nop => .command (commandWord 0x00 0 0 0 0)
  | .mov rd ra => .command (commandWord 0x01 rd ra 0 0)
  | .ldk rd k => .command (commandWord 0x02 rd k 0 0)
  | .fadd rd ra rb => .command (commandWord 0x10 rd ra rb 0)
  | .fsub rd ra rb => .command (commandWord 0x11 rd ra rb 0)
  | .fmul rd ra rb => .command (commandWord 0x12 rd ra rb 0)
  | .finv rd ra => .command (commandWord 0x13 rd ra 0 0)
  | .fpow rd ra rb => .command (commandWord 0x14 rd ra rb 0)
  | .fsqrt rd ra => .command (commandWord 0x15 rd ra 0 0)
  | .feq ra rb => .command (commandWord 0x16 0 ra rb 0)
  | .fred rd ra => .command (commandWord 0x17 rd ra 0 0)
  | .nadd rd ra rb => .command (commandWord 0x18 rd ra rb 0)
  | .nsub rd ra rb => .command (commandWord 0x19 rd ra rb 0)
  | .nmul rd ra rb => .command (commandWord 0x1A rd ra rb 0)
  | .ninv rd ra => .command (commandWord 0x1B rd ra 0 0)
  | .npow rd ra rb => .command (commandWord 0x1C rd ra rb 0)
  | .neq ra rb => .command (commandWord 0x1E 0 ra rb 0)
  | .nred rd ra => .command (commandWord 0x1F rd ra 0 0)
  | .padd pd pa pb => .command (commandWord 0x20 (pointField pd) (pointField pa) (pointField pb) 0)
  | .pdbl pd pa => .command (commandWord 0x21 (pointField pd) (pointField pa) 0 0)
  | .pmul pd pa rb => .command (commandWord 0x22 (pointField pd) (pointField pa) rb 0)
  | .pldg pd => .command (commandWord 0x23 (pointField pd) 0 0 0)
  | .pchk pa => .command (commandWord 0x24 0 (pointField pa) 0 0)
  | .pmov pd pa => .command (commandWord 0x25 (pointField pd) (pointField pa) 0 0)
  | .shainit => .command (commandWord 0x30 0 0 0 0)
  | .shacomp => .command (commandWord 0x31 0 0 0 0)
  | .esign rd rc ra rb => .command (commandWord 0x40 rd ra rb rc)
  | .everify pd ra rb rc => .command (commandWord 0x41 (pointField pd) ra rb rc)
  | .sighash rd => .command (commandWord 0x50 rd 0 0 0)
  | .script => .command (commandWord 0x51 0 0 0 0)
  | .op0 => .script [0x00]
  | .pushBytes1 d => .script (0x01 :: d)
  | .pushBytes2 d => .script (0x02 :: d)
  | .pushBytes3 d => .script (0x03 :: d)
  | .pushBytes4 d => .script (0x04 :: d)
  | .pushBytes5 d => .script (0x05 :: d)
  | .pushBytes6 d => .script (0x06 :: d)
  | .pushBytes7 d => .script (0x07 :: d)
  | .pushBytes8 d => .script (0x08 :: d)
  | .pushBytes9 d => .script (0x09 :: d)
  | .pushBytes10 d => .script (0x0A :: d)
  | .pushBytes11 d => .script (0x0B :: d)
  | .pushBytes12 d => .script (0x0C :: d)
  | .pushBytes13 d => .script (0x0D :: d)
  | .pushBytes14 d => .script (0x0E :: d)
  | .pushBytes15 d => .script (0x0F :: d)
  | .pushBytes16 d => .script (0x10 :: d)
  | .pushBytes17 d => .script (0x11 :: d)
  | .pushBytes18 d => .script (0x12 :: d)
  | .pushBytes19 d => .script (0x13 :: d)
  | .pushBytes20 d => .script (0x14 :: d)
  | .pushBytes21 d => .script (0x15 :: d)
  | .pushBytes22 d => .script (0x16 :: d)
  | .pushBytes23 d => .script (0x17 :: d)
  | .pushBytes24 d => .script (0x18 :: d)
  | .pushBytes25 d => .script (0x19 :: d)
  | .pushBytes26 d => .script (0x1A :: d)
  | .pushBytes27 d => .script (0x1B :: d)
  | .pushBytes28 d => .script (0x1C :: d)
  | .pushBytes29 d => .script (0x1D :: d)
  | .pushBytes30 d => .script (0x1E :: d)
  | .pushBytes31 d => .script (0x1F :: d)
  | .pushBytes32 d => .script (0x20 :: d)
  | .pushBytes33 d => .script (0x21 :: d)
  | .pushBytes34 d => .script (0x22 :: d)
  | .pushBytes35 d => .script (0x23 :: d)
  | .pushBytes36 d => .script (0x24 :: d)
  | .pushBytes37 d => .script (0x25 :: d)
  | .pushBytes38 d => .script (0x26 :: d)
  | .pushBytes39 d => .script (0x27 :: d)
  | .pushBytes40 d => .script (0x28 :: d)
  | .pushBytes41 d => .script (0x29 :: d)
  | .pushBytes42 d => .script (0x2A :: d)
  | .pushBytes43 d => .script (0x2B :: d)
  | .pushBytes44 d => .script (0x2C :: d)
  | .pushBytes45 d => .script (0x2D :: d)
  | .pushBytes46 d => .script (0x2E :: d)
  | .pushBytes47 d => .script (0x2F :: d)
  | .pushBytes48 d => .script (0x30 :: d)
  | .pushBytes49 d => .script (0x31 :: d)
  | .pushBytes50 d => .script (0x32 :: d)
  | .pushBytes51 d => .script (0x33 :: d)
  | .pushBytes52 d => .script (0x34 :: d)
  | .pushBytes53 d => .script (0x35 :: d)
  | .pushBytes54 d => .script (0x36 :: d)
  | .pushBytes55 d => .script (0x37 :: d)
  | .pushBytes56 d => .script (0x38 :: d)
  | .pushBytes57 d => .script (0x39 :: d)
  | .pushBytes58 d => .script (0x3A :: d)
  | .pushBytes59 d => .script (0x3B :: d)
  | .pushBytes60 d => .script (0x3C :: d)
  | .pushBytes61 d => .script (0x3D :: d)
  | .pushBytes62 d => .script (0x3E :: d)
  | .pushBytes63 d => .script (0x3F :: d)
  | .pushBytes64 d => .script (0x40 :: d)
  | .pushBytes65 d => .script (0x41 :: d)
  | .pushBytes66 d => .script (0x42 :: d)
  | .pushBytes67 d => .script (0x43 :: d)
  | .pushBytes68 d => .script (0x44 :: d)
  | .pushBytes69 d => .script (0x45 :: d)
  | .pushBytes70 d => .script (0x46 :: d)
  | .pushBytes71 d => .script (0x47 :: d)
  | .pushBytes72 d => .script (0x48 :: d)
  | .pushBytes73 d => .script (0x49 :: d)
  | .pushBytes74 d => .script (0x4A :: d)
  | .pushBytes75 d => .script (0x4B :: d)
  | .opPushData1 d => .script (0x4C :: leBytes 1 d.length ++ d)
  | .opPushData2 d => .script (0x4D :: leBytes 2 d.length ++ d)
  | .opPushData4 d => .script (0x4E :: leBytes 4 d.length ++ d)
  | .unsupported4F => .script [0x4F]
  | .unsupported50 => .script [0x50]
  | .op1 => .script [0x51]
  | .op2 => .script [0x52]
  | .op3 => .script [0x53]
  | .op4 => .script [0x54]
  | .op5 => .script [0x55]
  | .op6 => .script [0x56]
  | .op7 => .script [0x57]
  | .op8 => .script [0x58]
  | .op9 => .script [0x59]
  | .op10 => .script [0x5A]
  | .op11 => .script [0x5B]
  | .op12 => .script [0x5C]
  | .op13 => .script [0x5D]
  | .op14 => .script [0x5E]
  | .op15 => .script [0x5F]
  | .op16 => .script [0x60]
  | .unsupported61 => .script [0x61]
  | .unsupported62 => .script [0x62]
  | .unsupported63 => .script [0x63]
  | .unsupported64 => .script [0x64]
  | .unsupported65 => .script [0x65]
  | .unsupported66 => .script [0x66]
  | .unsupported67 => .script [0x67]
  | .unsupported68 => .script [0x68]
  | .unsupported69 => .script [0x69]
  | .unsupported6A => .script [0x6A]
  | .unsupported6B => .script [0x6B]
  | .unsupported6C => .script [0x6C]
  | .unsupported6D => .script [0x6D]
  | .unsupported6E => .script [0x6E]
  | .unsupported6F => .script [0x6F]
  | .unsupported70 => .script [0x70]
  | .unsupported71 => .script [0x71]
  | .unsupported72 => .script [0x72]
  | .unsupported73 => .script [0x73]
  | .unsupported74 => .script [0x74]
  | .unsupported75 => .script [0x75]
  | .opDup => .script [0x76]
  | .unsupported77 => .script [0x77]
  | .unsupported78 => .script [0x78]
  | .unsupported79 => .script [0x79]
  | .unsupported7A => .script [0x7A]
  | .unsupported7B => .script [0x7B]
  | .unsupported7C => .script [0x7C]
  | .unsupported7D => .script [0x7D]
  | .unsupported7E => .script [0x7E]
  | .unsupported7F => .script [0x7F]
  | .unsupported80 => .script [0x80]
  | .unsupported81 => .script [0x81]
  | .unsupported82 => .script [0x82]
  | .unsupported83 => .script [0x83]
  | .unsupported84 => .script [0x84]
  | .unsupported85 => .script [0x85]
  | .unsupported86 => .script [0x86]
  | .unsupported87 => .script [0x87]
  | .opEqualVerify => .script [0x88]
  | .unsupported89 => .script [0x89]
  | .unsupported8A => .script [0x8A]
  | .unsupported8B => .script [0x8B]
  | .unsupported8C => .script [0x8C]
  | .unsupported8D => .script [0x8D]
  | .unsupported8E => .script [0x8E]
  | .unsupported8F => .script [0x8F]
  | .unsupported90 => .script [0x90]
  | .unsupported91 => .script [0x91]
  | .unsupported92 => .script [0x92]
  | .unsupported93 => .script [0x93]
  | .unsupported94 => .script [0x94]
  | .unsupported95 => .script [0x95]
  | .unsupported96 => .script [0x96]
  | .unsupported97 => .script [0x97]
  | .unsupported98 => .script [0x98]
  | .unsupported99 => .script [0x99]
  | .unsupported9A => .script [0x9A]
  | .unsupported9B => .script [0x9B]
  | .unsupported9C => .script [0x9C]
  | .unsupported9D => .script [0x9D]
  | .unsupported9E => .script [0x9E]
  | .unsupported9F => .script [0x9F]
  | .unsupportedA0 => .script [0xA0]
  | .unsupportedA1 => .script [0xA1]
  | .unsupportedA2 => .script [0xA2]
  | .unsupportedA3 => .script [0xA3]
  | .unsupportedA4 => .script [0xA4]
  | .unsupportedA5 => .script [0xA5]
  | .unsupportedA6 => .script [0xA6]
  | .unsupportedA7 => .script [0xA7]
  | .unsupportedA8 => .script [0xA8]
  | .opHash160 => .script [0xA9]
  | .unsupportedAA => .script [0xAA]
  | .unsupportedAB => .script [0xAB]
  | .opCheckSig => .script [0xAC]
  | .unsupportedAD => .script [0xAD]
  | .unsupportedAE => .script [0xAE]
  | .unsupportedAF => .script [0xAF]
  | .unsupportedB0 => .script [0xB0]
  | .unsupportedB1 => .script [0xB1]
  | .unsupportedB2 => .script [0xB2]
  | .unsupportedB3 => .script [0xB3]
  | .unsupportedB4 => .script [0xB4]
  | .unsupportedB5 => .script [0xB5]
  | .unsupportedB6 => .script [0xB6]
  | .unsupportedB7 => .script [0xB7]
  | .unsupportedB8 => .script [0xB8]
  | .unsupportedB9 => .script [0xB9]
  | .unsupportedBA => .script [0xBA]
  | .unsupportedBB => .script [0xBB]
  | .unsupportedBC => .script [0xBC]
  | .unsupportedBD => .script [0xBD]
  | .unsupportedBE => .script [0xBE]
  | .unsupportedBF => .script [0xBF]
  | .unsupportedC0 => .script [0xC0]
  | .unsupportedC1 => .script [0xC1]
  | .unsupportedC2 => .script [0xC2]
  | .unsupportedC3 => .script [0xC3]
  | .unsupportedC4 => .script [0xC4]
  | .unsupportedC5 => .script [0xC5]
  | .unsupportedC6 => .script [0xC6]
  | .unsupportedC7 => .script [0xC7]
  | .unsupportedC8 => .script [0xC8]
  | .unsupportedC9 => .script [0xC9]
  | .unsupportedCA => .script [0xCA]
  | .unsupportedCB => .script [0xCB]
  | .unsupportedCC => .script [0xCC]
  | .unsupportedCD => .script [0xCD]
  | .unsupportedCE => .script [0xCE]
  | .unsupportedCF => .script [0xCF]
  | .unsupportedD0 => .script [0xD0]
  | .unsupportedD1 => .script [0xD1]
  | .unsupportedD2 => .script [0xD2]
  | .unsupportedD3 => .script [0xD3]
  | .unsupportedD4 => .script [0xD4]
  | .unsupportedD5 => .script [0xD5]
  | .unsupportedD6 => .script [0xD6]
  | .unsupportedD7 => .script [0xD7]
  | .unsupportedD8 => .script [0xD8]
  | .unsupportedD9 => .script [0xD9]
  | .unsupportedDA => .script [0xDA]
  | .unsupportedDB => .script [0xDB]
  | .unsupportedDC => .script [0xDC]
  | .unsupportedDD => .script [0xDD]
  | .unsupportedDE => .script [0xDE]
  | .unsupportedDF => .script [0xDF]
  | .unsupportedE0 => .script [0xE0]
  | .unsupportedE1 => .script [0xE1]
  | .unsupportedE2 => .script [0xE2]
  | .unsupportedE3 => .script [0xE3]
  | .unsupportedE4 => .script [0xE4]
  | .unsupportedE5 => .script [0xE5]
  | .unsupportedE6 => .script [0xE6]
  | .unsupportedE7 => .script [0xE7]
  | .unsupportedE8 => .script [0xE8]
  | .unsupportedE9 => .script [0xE9]
  | .unsupportedEA => .script [0xEA]
  | .unsupportedEB => .script [0xEB]
  | .unsupportedEC => .script [0xEC]
  | .unsupportedED => .script [0xED]
  | .unsupportedEE => .script [0xEE]
  | .unsupportedEF => .script [0xEF]
  | .unsupportedF0 => .script [0xF0]
  | .unsupportedF1 => .script [0xF1]
  | .unsupportedF2 => .script [0xF2]
  | .unsupportedF3 => .script [0xF3]
  | .unsupportedF4 => .script [0xF4]
  | .unsupportedF5 => .script [0xF5]
  | .unsupportedF6 => .script [0xF6]
  | .unsupportedF7 => .script [0xF7]
  | .unsupportedF8 => .script [0xF8]
  | .unsupportedF9 => .script [0xF9]
  | .unsupportedFA => .script [0xFA]
  | .unsupportedFB => .script [0xFB]
  | .unsupportedFC => .script [0xFC]
  | .unsupportedFD => .script [0xFD]
  | .unsupportedFE => .script [0xFE]
  | .unsupportedFF => .script [0xFF]

/-- The instruction an encoding stands for: a command word whole, or a byte string that is one script command. -/
def decode : Encoding → Except DecodeError Instr
  | .command w => decodeCommand w
  | .script bs => do
      let c ← decodeScript bs
      pure c.1

/-- The most bytes of a script command whose length field is zero: PUSHBYTES_75. -/
def longestScriptBytes : Nat := 76

/-- The instruction the decoder reads from a row's bits: 8 bits are a script command's first byte, with every byte
after it zero, and 32 bits are a command word. -/
def decodeTableWord (nbits w : Nat) : Option Instr :=
  if nbits ≤ 8 then ((decodeScript (leBytes longestScriptBytes w)).map Prod.fst).toOption
  else (decodeCommand (BitVec.ofNat 32 w)).toOption

end Sys2Proof
end

