-- ==== Sys2Proof/Machine/ScriptVm.lean ====
section
/-! DEFINITION. The script VM's shared operations (44_script.md R262 to R264, R281 to R283, R288): the start of an
evaluation, a push with its limits, the failure of an evaluation, its verdict. One script command is one step of the
model; the host sees none of the states between (10_state.md R40, log entry 5). -/

namespace Sys2Proof.Machine

/-- VMSTAT.REASON's code (R288). -/
def reasonByte : Reason → Byte
  | .accept => 0x00
  | .falseTop => 0x01
  | .emptyEnd => 0x02
  | .checkSigFalse => 0x03
  | .underflow => 0x04
  | .badOpcode => 0x05
  | .sigParse => 0x06
  | .pubkeyScriptParse => 0x07
  | .equalVerify => 0x08
  | .sighashType => 0x09
  | .badPubkey => 0x0A
  | .badDer => 0x0B
  | .stackOverflow => 0x0C
  | .elemSize => 0x0D

/-- SCRIPT's completion: VMSTAT.REASON is written and RES is the verdict (R287). -/
def finishScript (s : State) (reason : Reason) : State :=
  complete { s with vmstat := reasonByte reason } (reason == .accept)

/-- `fail(reason)`: the evaluation ends at once with a false verdict, which is no fault (R281). -/
def vmFail (s : State) (reason : Reason) : Result := .next (finishScript s reason)

/-- The VM state of the SCRIPT in progress; a script command has no effect without one (log entry 12). -/
def withVm (s : State) (k : Vm → Result) : Result :=
  match s.vm with
  | none => .fault .noScriptRunning
  | some v => k v

/-- The next command of the program, with the stack this one leaves (R280). -/
def vmNext (s : State) (v : Vm) (stack : List Bytes) : Result :=
  .next { s with vm := some { v with ip := v.ip + 1, stack := stack } }

/-- `push(x)` onto a stack, with its two limits in their order, and the next command (R264). -/
def vmPush (s : State) (v : Vm) (stack : List Bytes) (x : Bytes) : Result :=
  if x.length > elemMax then vmFail s .elemSize
  else if stack.length = stackMax then vmFail s .stackOverflow
  else vmNext s v (x :: stack)

/-- A command that pushes `x` and reads nothing (R269 to R271). -/
def pushData (s : State) (x : Bytes) : Result := withVm s fun v => vmPush s v v.stack x

/-- An unsupported opcode, executed (R276). -/
def badOpcode (s : State) : Result := withVm s fun _ => vmFail s .badOpcode

/-- `truthy(x)`: some byte is not zero; the "negative zero" strings are truthy (R282, U8). -/
def truthy (x : Bytes) : Bool := x.any fun b => b != 0

/-- `verdict()` after all commands have run (R283). -/
def verdict (v : Vm) : Reason :=
  match v.stack with
  | [] => .emptyEnd
  | top :: _ => if !truthy top then .falseTop else if v.chkfail then .checkSigFalse else .accept

/-- The VM state before the first command (R263). -/
def vmStart (prog : List Instr) (tx : Tx) : Vm := { prog := prog, ip := 0, stack := [], chkfail := false, tx := tx }

/-- The start of an evaluation: both bodies parsed, script_sig first, before any command executes (R262). The engine
stays BUSY with the evaluation present. -/
def startScript (s : State) (tx : Tx) (scriptSig : Bytes) : Result :=
  match parseScript scriptSig with
  | .error _ => vmFail s .sigParse
  | .ok sigProg =>
    match parseScript (spkBytes s) with
    | .error _ => vmFail s .pubkeyScriptParse
    | .ok pubProg => .next { s with vm := some (vmStart (sigProg ++ pubProg) tx) }

/-- The bytes OP_CHECKSIG checks, in its order: sighash type, public key, DER (R275). -/
def checkSigInputs (sig pub : Bytes) : Except Reason (Point × Nat × Nat) :=
  if sig.getLast? ≠ some 0x01 then .error .sighashType
  else
    match secDecode pub with
    | none => .error .badPubkey
    | some q =>
      match derDecode sig.dropLast with
      | none => .error .badDer
      | some (r, s) => .ok (q, r, s)

end Sys2Proof.Machine
end

