-- ==== Sys2Proof/Machine/ScriptOps.lean ====
section
/-! DEFINITION. The supported script opcodes that are no data push: OP_0, OP_1 to OP_16, OP_DUP, OP_HASH160,
OP_EQUALVERIFY and OP_CHECKSIG (44_script.md R270 to R275): one meaning each. -/

namespace Sys2Proof.Machine

/-- OP_0 pushes ε (R270). -/
def execOp0 (s : State) : Result := pushData s []

/-- OP_1 pushes the one byte 1 (R271). -/
def execOp1 (s : State) : Result := pushData s [1]

/-- OP_2 pushes the one byte 2 (R271). -/
def execOp2 (s : State) : Result := pushData s [2]

/-- OP_3 pushes the one byte 3 (R271). -/
def execOp3 (s : State) : Result := pushData s [3]

/-- OP_4 pushes the one byte 4 (R271). -/
def execOp4 (s : State) : Result := pushData s [4]

/-- OP_5 pushes the one byte 5 (R271). -/
def execOp5 (s : State) : Result := pushData s [5]

/-- OP_6 pushes the one byte 6 (R271). -/
def execOp6 (s : State) : Result := pushData s [6]

/-- OP_7 pushes the one byte 7 (R271). -/
def execOp7 (s : State) : Result := pushData s [7]

/-- OP_8 pushes the one byte 8 (R271). -/
def execOp8 (s : State) : Result := pushData s [8]

/-- OP_9 pushes the one byte 9 (R271). -/
def execOp9 (s : State) : Result := pushData s [9]

/-- OP_10 pushes the one byte 10 (R271). -/
def execOp10 (s : State) : Result := pushData s [10]

/-- OP_11 pushes the one byte 11 (R271). -/
def execOp11 (s : State) : Result := pushData s [11]

/-- OP_12 pushes the one byte 12 (R271). -/
def execOp12 (s : State) : Result := pushData s [12]

/-- OP_13 pushes the one byte 13 (R271). -/
def execOp13 (s : State) : Result := pushData s [13]

/-- OP_14 pushes the one byte 14 (R271). -/
def execOp14 (s : State) : Result := pushData s [14]

/-- OP_15 pushes the one byte 15 (R271). -/
def execOp15 (s : State) : Result := pushData s [15]

/-- OP_16 pushes the one byte 16 (R271). -/
def execOp16 (s : State) : Result := pushData s [16]

/-- OP_DUP (R272). -/
def execOpDup (s : State) : Result :=
  withVm s fun v =>
    match v.stack with
    | [] => vmFail s .underflow
    | x :: rest => vmPush s v (x :: rest) x

/-- OP_HASH160 (R273). -/
def execOpHash160 (s : State) : Result :=
  withVm s fun v =>
    match v.stack with
    | [] => vmFail s .underflow
    | x :: rest => vmPush s v rest (hash160 x)

/-- OP_EQUALVERIFY (R274): byte-string equality, nothing pushed. -/
def execOpEqualVerify (s : State) : Result :=
  withVm s fun v =>
    match v.stack with
    | a :: b :: rest => if a = b then vmNext s v rest else vmFail s .equalVerify
    | _ => vmFail s .underflow

/-- OP_CHECKSIG (R275): pops pubkey then signature; a false verify pushes [0x00], sets CHKFAIL and goes on. -/
def execOpCheckSig (s : State) : Result :=
  withVm s fun v =>
    match v.stack with
    | pub :: sig :: rest =>
      match checkSigInputs sig pub with
      | .error reason => vmFail s reason
      | .ok (q, r, sv) =>
        let ok := verify q (sighashZ v.tx s.inidx.toNat (spkBytes s)) r sv
        vmPush s { v with chkfail := v.chkfail || !ok } rest [if ok then 0x01 else 0x00]
    | _ => vmFail s .underflow

end Sys2Proof.Machine
end

