-- ==== Sys2Proof/Machine/ScriptPush.lean ====
section
/-! DEFINITION. The data pushes PUSHBYTES_1 to PUSHBYTES_75 and OP_PUSHDATA1, 2 and 4 (44_script.md R269): each pushes its
data bytes. One meaning each, so that a repair can mend one without the others. -/

namespace Sys2Proof.Machine

/-- PUSHBYTES_1 (R269). -/
def execPushBytes1 (data : Bytes) (s : State) : Result := pushData s data

/-- PUSHBYTES_2 (R269). -/
def execPushBytes2 (data : Bytes) (s : State) : Result := pushData s data

/-- PUSHBYTES_3 (R269). -/
def execPushBytes3 (data : Bytes) (s : State) : Result := pushData s data

/-- PUSHBYTES_4 (R269). -/
def execPushBytes4 (data : Bytes) (s : State) : Result := pushData s data

/-- PUSHBYTES_5 (R269). -/
def execPushBytes5 (data : Bytes) (s : State) : Result := pushData s data

/-- PUSHBYTES_6 (R269). -/
def execPushBytes6 (data : Bytes) (s : State) : Result := pushData s data

/-- PUSHBYTES_7 (R269). -/
def execPushBytes7 (data : Bytes) (s : State) : Result := pushData s data

/-- PUSHBYTES_8 (R269). -/
def execPushBytes8 (data : Bytes) (s : State) : Result := pushData s data

/-- PUSHBYTES_9 (R269). -/
def execPushBytes9 (data : Bytes) (s : State) : Result := pushData s data

/-- PUSHBYTES_10 (R269). -/
def execPushBytes10 (data : Bytes) (s : State) : Result := pushData s data

/-- PUSHBYTES_11 (R269). -/
def execPushBytes11 (data : Bytes) (s : State) : Result := pushData s data

/-- PUSHBYTES_12 (R269). -/
def execPushBytes12 (data : Bytes) (s : State) : Result := pushData s data

/-- PUSHBYTES_13 (R269). -/
def execPushBytes13 (data : Bytes) (s : State) : Result := pushData s data

/-- PUSHBYTES_14 (R269). -/
def execPushBytes14 (data : Bytes) (s : State) : Result := pushData s data

/-- PUSHBYTES_15 (R269). -/
def execPushBytes15 (data : Bytes) (s : State) : Result := pushData s data

/-- PUSHBYTES_16 (R269). -/
def execPushBytes16 (data : Bytes) (s : State) : Result := pushData s data

/-- PUSHBYTES_17 (R269). -/
def execPushBytes17 (data : Bytes) (s : State) : Result := pushData s data

/-- PUSHBYTES_18 (R269). -/
def execPushBytes18 (data : Bytes) (s : State) : Result := pushData s data

/-- PUSHBYTES_19 (R269). -/
def execPushBytes19 (data : Bytes) (s : State) : Result := pushData s data

/-- PUSHBYTES_20 (R269). -/
def execPushBytes20 (data : Bytes) (s : State) : Result := pushData s data

/-- PUSHBYTES_21 (R269). -/
def execPushBytes21 (data : Bytes) (s : State) : Result := pushData s data

/-- PUSHBYTES_22 (R269). -/
def execPushBytes22 (data : Bytes) (s : State) : Result := pushData s data

/-- PUSHBYTES_23 (R269). -/
def execPushBytes23 (data : Bytes) (s : State) : Result := pushData s data

/-- PUSHBYTES_24 (R269). -/
def execPushBytes24 (data : Bytes) (s : State) : Result := pushData s data

/-- PUSHBYTES_25 (R269). -/
def execPushBytes25 (data : Bytes) (s : State) : Result := pushData s data

/-- PUSHBYTES_26 (R269). -/
def execPushBytes26 (data : Bytes) (s : State) : Result := pushData s data

/-- PUSHBYTES_27 (R269). -/
def execPushBytes27 (data : Bytes) (s : State) : Result := pushData s data

/-- PUSHBYTES_28 (R269). -/
def execPushBytes28 (data : Bytes) (s : State) : Result := pushData s data

/-- PUSHBYTES_29 (R269). -/
def execPushBytes29 (data : Bytes) (s : State) : Result := pushData s data

/-- PUSHBYTES_30 (R269). -/
def execPushBytes30 (data : Bytes) (s : State) : Result := pushData s data

/-- PUSHBYTES_31 (R269). -/
def execPushBytes31 (data : Bytes) (s : State) : Result := pushData s data

/-- PUSHBYTES_32 (R269). -/
def execPushBytes32 (data : Bytes) (s : State) : Result := pushData s data

/-- PUSHBYTES_33 (R269). -/
def execPushBytes33 (data : Bytes) (s : State) : Result := pushData s data

/-- PUSHBYTES_34 (R269). -/
def execPushBytes34 (data : Bytes) (s : State) : Result := pushData s data

/-- PUSHBYTES_35 (R269). -/
def execPushBytes35 (data : Bytes) (s : State) : Result := pushData s data

/-- PUSHBYTES_36 (R269). -/
def execPushBytes36 (data : Bytes) (s : State) : Result := pushData s data

/-- PUSHBYTES_37 (R269). -/
def execPushBytes37 (data : Bytes) (s : State) : Result := pushData s data

/-- PUSHBYTES_38 (R269). -/
def execPushBytes38 (data : Bytes) (s : State) : Result := pushData s data

/-- PUSHBYTES_39 (R269). -/
def execPushBytes39 (data : Bytes) (s : State) : Result := pushData s data

/-- PUSHBYTES_40 (R269). -/
def execPushBytes40 (data : Bytes) (s : State) : Result := pushData s data

/-- PUSHBYTES_41 (R269). -/
def execPushBytes41 (data : Bytes) (s : State) : Result := pushData s data

/-- PUSHBYTES_42 (R269). -/
def execPushBytes42 (data : Bytes) (s : State) : Result := pushData s data

/-- PUSHBYTES_43 (R269). -/
def execPushBytes43 (data : Bytes) (s : State) : Result := pushData s data

/-- PUSHBYTES_44 (R269). -/
def execPushBytes44 (data : Bytes) (s : State) : Result := pushData s data

/-- PUSHBYTES_45 (R269). -/
def execPushBytes45 (data : Bytes) (s : State) : Result := pushData s data

/-- PUSHBYTES_46 (R269). -/
def execPushBytes46 (data : Bytes) (s : State) : Result := pushData s data

/-- PUSHBYTES_47 (R269). -/
def execPushBytes47 (data : Bytes) (s : State) : Result := pushData s data

/-- PUSHBYTES_48 (R269). -/
def execPushBytes48 (data : Bytes) (s : State) : Result := pushData s data

/-- PUSHBYTES_49 (R269). -/
def execPushBytes49 (data : Bytes) (s : State) : Result := pushData s data

/-- PUSHBYTES_50 (R269). -/
def execPushBytes50 (data : Bytes) (s : State) : Result := pushData s data

/-- PUSHBYTES_51 (R269). -/
def execPushBytes51 (data : Bytes) (s : State) : Result := pushData s data

/-- PUSHBYTES_52 (R269). -/
def execPushBytes52 (data : Bytes) (s : State) : Result := pushData s data

/-- PUSHBYTES_53 (R269). -/
def execPushBytes53 (data : Bytes) (s : State) : Result := pushData s data

/-- PUSHBYTES_54 (R269). -/
def execPushBytes54 (data : Bytes) (s : State) : Result := pushData s data

/-- PUSHBYTES_55 (R269). -/
def execPushBytes55 (data : Bytes) (s : State) : Result := pushData s data

/-- PUSHBYTES_56 (R269). -/
def execPushBytes56 (data : Bytes) (s : State) : Result := pushData s data

/-- PUSHBYTES_57 (R269). -/
def execPushBytes57 (data : Bytes) (s : State) : Result := pushData s data

/-- PUSHBYTES_58 (R269). -/
def execPushBytes58 (data : Bytes) (s : State) : Result := pushData s data

/-- PUSHBYTES_59 (R269). -/
def execPushBytes59 (data : Bytes) (s : State) : Result := pushData s data

/-- PUSHBYTES_60 (R269). -/
def execPushBytes60 (data : Bytes) (s : State) : Result := pushData s data

/-- PUSHBYTES_61 (R269). -/
def execPushBytes61 (data : Bytes) (s : State) : Result := pushData s data

/-- PUSHBYTES_62 (R269). -/
def execPushBytes62 (data : Bytes) (s : State) : Result := pushData s data

/-- PUSHBYTES_63 (R269). -/
def execPushBytes63 (data : Bytes) (s : State) : Result := pushData s data

/-- PUSHBYTES_64 (R269). -/
def execPushBytes64 (data : Bytes) (s : State) : Result := pushData s data

/-- PUSHBYTES_65 (R269). -/
def execPushBytes65 (data : Bytes) (s : State) : Result := pushData s data

/-- PUSHBYTES_66 (R269). -/
def execPushBytes66 (data : Bytes) (s : State) : Result := pushData s data

/-- PUSHBYTES_67 (R269). -/
def execPushBytes67 (data : Bytes) (s : State) : Result := pushData s data

/-- PUSHBYTES_68 (R269). -/
def execPushBytes68 (data : Bytes) (s : State) : Result := pushData s data

/-- PUSHBYTES_69 (R269). -/
def execPushBytes69 (data : Bytes) (s : State) : Result := pushData s data

/-- PUSHBYTES_70 (R269). -/
def execPushBytes70 (data : Bytes) (s : State) : Result := pushData s data

/-- PUSHBYTES_71 (R269). -/
def execPushBytes71 (data : Bytes) (s : State) : Result := pushData s data

/-- PUSHBYTES_72 (R269). -/
def execPushBytes72 (data : Bytes) (s : State) : Result := pushData s data

/-- PUSHBYTES_73 (R269). -/
def execPushBytes73 (data : Bytes) (s : State) : Result := pushData s data

/-- PUSHBYTES_74 (R269). -/
def execPushBytes74 (data : Bytes) (s : State) : Result := pushData s data

/-- PUSHBYTES_75 (R269). -/
def execPushBytes75 (data : Bytes) (s : State) : Result := pushData s data

/-- OP_PUSHDATA1 (R269). -/
def execOpPushData1 (data : Bytes) (s : State) : Result := pushData s data

/-- OP_PUSHDATA2 (R269). -/
def execOpPushData2 (data : Bytes) (s : State) : Result := pushData s data

/-- OP_PUSHDATA4 (R269). -/
def execOpPushData4 (data : Bytes) (s : State) : Result := pushData s data

end Sys2Proof.Machine
end

