-- ==== Sys2Proof/Machine/ScriptUnsupported.lean ====
section
/-! DEFINITION. The script bytes outside the supported set (44_script.md R276): each fails the evaluation with BAD_OPCODE when
it is executed. One meaning each, so that a repair can mend one without the others. -/

namespace Sys2Proof.Machine

/-- Byte 0x4F (R276). -/
def execUnsupported4F (s : State) : Result := badOpcode s

/-- Byte 0x50 (R276). -/
def execUnsupported50 (s : State) : Result := badOpcode s

/-- Byte 0x61 (R276). -/
def execUnsupported61 (s : State) : Result := badOpcode s

/-- Byte 0x62 (R276). -/
def execUnsupported62 (s : State) : Result := badOpcode s

/-- Byte 0x63 (R276). -/
def execUnsupported63 (s : State) : Result := badOpcode s

/-- Byte 0x64 (R276). -/
def execUnsupported64 (s : State) : Result := badOpcode s

/-- Byte 0x65 (R276). -/
def execUnsupported65 (s : State) : Result := badOpcode s

/-- Byte 0x66 (R276). -/
def execUnsupported66 (s : State) : Result := badOpcode s

/-- Byte 0x67 (R276). -/
def execUnsupported67 (s : State) : Result := badOpcode s

/-- Byte 0x68 (R276). -/
def execUnsupported68 (s : State) : Result := badOpcode s

/-- Byte 0x69 (R276). -/
def execUnsupported69 (s : State) : Result := badOpcode s

/-- Byte 0x6A (R276). -/
def execUnsupported6A (s : State) : Result := badOpcode s

/-- Byte 0x6B (R276). -/
def execUnsupported6B (s : State) : Result := badOpcode s

/-- Byte 0x6C (R276). -/
def execUnsupported6C (s : State) : Result := badOpcode s

/-- Byte 0x6D (R276). -/
def execUnsupported6D (s : State) : Result := badOpcode s

/-- Byte 0x6E (R276). -/
def execUnsupported6E (s : State) : Result := badOpcode s

/-- Byte 0x6F (R276). -/
def execUnsupported6F (s : State) : Result := badOpcode s

/-- Byte 0x70 (R276). -/
def execUnsupported70 (s : State) : Result := badOpcode s

/-- Byte 0x71 (R276). -/
def execUnsupported71 (s : State) : Result := badOpcode s

/-- Byte 0x72 (R276). -/
def execUnsupported72 (s : State) : Result := badOpcode s

/-- Byte 0x73 (R276). -/
def execUnsupported73 (s : State) : Result := badOpcode s

/-- Byte 0x74 (R276). -/
def execUnsupported74 (s : State) : Result := badOpcode s

/-- Byte 0x75 (R276). -/
def execUnsupported75 (s : State) : Result := badOpcode s

/-- Byte 0x77 (R276). -/
def execUnsupported77 (s : State) : Result := badOpcode s

/-- Byte 0x78 (R276). -/
def execUnsupported78 (s : State) : Result := badOpcode s

/-- Byte 0x79 (R276). -/
def execUnsupported79 (s : State) : Result := badOpcode s

/-- Byte 0x7A (R276). -/
def execUnsupported7A (s : State) : Result := badOpcode s

/-- Byte 0x7B (R276). -/
def execUnsupported7B (s : State) : Result := badOpcode s

/-- Byte 0x7C (R276). -/
def execUnsupported7C (s : State) : Result := badOpcode s

/-- Byte 0x7D (R276). -/
def execUnsupported7D (s : State) : Result := badOpcode s

/-- Byte 0x7E (R276). -/
def execUnsupported7E (s : State) : Result := badOpcode s

/-- Byte 0x7F (R276). -/
def execUnsupported7F (s : State) : Result := badOpcode s

/-- Byte 0x80 (R276). -/
def execUnsupported80 (s : State) : Result := badOpcode s

/-- Byte 0x81 (R276). -/
def execUnsupported81 (s : State) : Result := badOpcode s

/-- Byte 0x82 (R276). -/
def execUnsupported82 (s : State) : Result := badOpcode s

/-- Byte 0x83 (R276). -/
def execUnsupported83 (s : State) : Result := badOpcode s

/-- Byte 0x84 (R276). -/
def execUnsupported84 (s : State) : Result := badOpcode s

/-- Byte 0x85 (R276). -/
def execUnsupported85 (s : State) : Result := badOpcode s

/-- Byte 0x86 (R276). -/
def execUnsupported86 (s : State) : Result := badOpcode s

/-- Byte 0x87 (R276). -/
def execUnsupported87 (s : State) : Result := badOpcode s

/-- Byte 0x89 (R276). -/
def execUnsupported89 (s : State) : Result := badOpcode s

/-- Byte 0x8A (R276). -/
def execUnsupported8A (s : State) : Result := badOpcode s

/-- Byte 0x8B (R276). -/
def execUnsupported8B (s : State) : Result := badOpcode s

/-- Byte 0x8C (R276). -/
def execUnsupported8C (s : State) : Result := badOpcode s

/-- Byte 0x8D (R276). -/
def execUnsupported8D (s : State) : Result := badOpcode s

/-- Byte 0x8E (R276). -/
def execUnsupported8E (s : State) : Result := badOpcode s

/-- Byte 0x8F (R276). -/
def execUnsupported8F (s : State) : Result := badOpcode s

/-- Byte 0x90 (R276). -/
def execUnsupported90 (s : State) : Result := badOpcode s

/-- Byte 0x91 (R276). -/
def execUnsupported91 (s : State) : Result := badOpcode s

/-- Byte 0x92 (R276). -/
def execUnsupported92 (s : State) : Result := badOpcode s

/-- Byte 0x93 (R276). -/
def execUnsupported93 (s : State) : Result := badOpcode s

/-- Byte 0x94 (R276). -/
def execUnsupported94 (s : State) : Result := badOpcode s

/-- Byte 0x95 (R276). -/
def execUnsupported95 (s : State) : Result := badOpcode s

/-- Byte 0x96 (R276). -/
def execUnsupported96 (s : State) : Result := badOpcode s

/-- Byte 0x97 (R276). -/
def execUnsupported97 (s : State) : Result := badOpcode s

/-- Byte 0x98 (R276). -/
def execUnsupported98 (s : State) : Result := badOpcode s

/-- Byte 0x99 (R276). -/
def execUnsupported99 (s : State) : Result := badOpcode s

/-- Byte 0x9A (R276). -/
def execUnsupported9A (s : State) : Result := badOpcode s

/-- Byte 0x9B (R276). -/
def execUnsupported9B (s : State) : Result := badOpcode s

/-- Byte 0x9C (R276). -/
def execUnsupported9C (s : State) : Result := badOpcode s

/-- Byte 0x9D (R276). -/
def execUnsupported9D (s : State) : Result := badOpcode s

/-- Byte 0x9E (R276). -/
def execUnsupported9E (s : State) : Result := badOpcode s

/-- Byte 0x9F (R276). -/
def execUnsupported9F (s : State) : Result := badOpcode s

/-- Byte 0xA0 (R276). -/
def execUnsupportedA0 (s : State) : Result := badOpcode s

/-- Byte 0xA1 (R276). -/
def execUnsupportedA1 (s : State) : Result := badOpcode s

/-- Byte 0xA2 (R276). -/
def execUnsupportedA2 (s : State) : Result := badOpcode s

/-- Byte 0xA3 (R276). -/
def execUnsupportedA3 (s : State) : Result := badOpcode s

/-- Byte 0xA4 (R276). -/
def execUnsupportedA4 (s : State) : Result := badOpcode s

/-- Byte 0xA5 (R276). -/
def execUnsupportedA5 (s : State) : Result := badOpcode s

/-- Byte 0xA6 (R276). -/
def execUnsupportedA6 (s : State) : Result := badOpcode s

/-- Byte 0xA7 (R276). -/
def execUnsupportedA7 (s : State) : Result := badOpcode s

/-- Byte 0xA8 (R276). -/
def execUnsupportedA8 (s : State) : Result := badOpcode s

/-- Byte 0xAA (R276). -/
def execUnsupportedAA (s : State) : Result := badOpcode s

/-- Byte 0xAB (R276). -/
def execUnsupportedAB (s : State) : Result := badOpcode s

/-- Byte 0xAD (R276). -/
def execUnsupportedAD (s : State) : Result := badOpcode s

/-- Byte 0xAE (R276). -/
def execUnsupportedAE (s : State) : Result := badOpcode s

/-- Byte 0xAF (R276). -/
def execUnsupportedAF (s : State) : Result := badOpcode s

/-- Byte 0xB0 (R276). -/
def execUnsupportedB0 (s : State) : Result := badOpcode s

/-- Byte 0xB1 (R276). -/
def execUnsupportedB1 (s : State) : Result := badOpcode s

/-- Byte 0xB2 (R276). -/
def execUnsupportedB2 (s : State) : Result := badOpcode s

/-- Byte 0xB3 (R276). -/
def execUnsupportedB3 (s : State) : Result := badOpcode s

/-- Byte 0xB4 (R276). -/
def execUnsupportedB4 (s : State) : Result := badOpcode s

/-- Byte 0xB5 (R276). -/
def execUnsupportedB5 (s : State) : Result := badOpcode s

/-- Byte 0xB6 (R276). -/
def execUnsupportedB6 (s : State) : Result := badOpcode s

/-- Byte 0xB7 (R276). -/
def execUnsupportedB7 (s : State) : Result := badOpcode s

/-- Byte 0xB8 (R276). -/
def execUnsupportedB8 (s : State) : Result := badOpcode s

/-- Byte 0xB9 (R276). -/
def execUnsupportedB9 (s : State) : Result := badOpcode s

/-- Byte 0xBA (R276). -/
def execUnsupportedBA (s : State) : Result := badOpcode s

/-- Byte 0xBB (R276). -/
def execUnsupportedBB (s : State) : Result := badOpcode s

/-- Byte 0xBC (R276). -/
def execUnsupportedBC (s : State) : Result := badOpcode s

/-- Byte 0xBD (R276). -/
def execUnsupportedBD (s : State) : Result := badOpcode s

/-- Byte 0xBE (R276). -/
def execUnsupportedBE (s : State) : Result := badOpcode s

/-- Byte 0xBF (R276). -/
def execUnsupportedBF (s : State) : Result := badOpcode s

/-- Byte 0xC0 (R276). -/
def execUnsupportedC0 (s : State) : Result := badOpcode s

/-- Byte 0xC1 (R276). -/
def execUnsupportedC1 (s : State) : Result := badOpcode s

/-- Byte 0xC2 (R276). -/
def execUnsupportedC2 (s : State) : Result := badOpcode s

/-- Byte 0xC3 (R276). -/
def execUnsupportedC3 (s : State) : Result := badOpcode s

/-- Byte 0xC4 (R276). -/
def execUnsupportedC4 (s : State) : Result := badOpcode s

/-- Byte 0xC5 (R276). -/
def execUnsupportedC5 (s : State) : Result := badOpcode s

/-- Byte 0xC6 (R276). -/
def execUnsupportedC6 (s : State) : Result := badOpcode s

/-- Byte 0xC7 (R276). -/
def execUnsupportedC7 (s : State) : Result := badOpcode s

/-- Byte 0xC8 (R276). -/
def execUnsupportedC8 (s : State) : Result := badOpcode s

/-- Byte 0xC9 (R276). -/
def execUnsupportedC9 (s : State) : Result := badOpcode s

/-- Byte 0xCA (R276). -/
def execUnsupportedCA (s : State) : Result := badOpcode s

/-- Byte 0xCB (R276). -/
def execUnsupportedCB (s : State) : Result := badOpcode s

/-- Byte 0xCC (R276). -/
def execUnsupportedCC (s : State) : Result := badOpcode s

/-- Byte 0xCD (R276). -/
def execUnsupportedCD (s : State) : Result := badOpcode s

/-- Byte 0xCE (R276). -/
def execUnsupportedCE (s : State) : Result := badOpcode s

/-- Byte 0xCF (R276). -/
def execUnsupportedCF (s : State) : Result := badOpcode s

/-- Byte 0xD0 (R276). -/
def execUnsupportedD0 (s : State) : Result := badOpcode s

/-- Byte 0xD1 (R276). -/
def execUnsupportedD1 (s : State) : Result := badOpcode s

/-- Byte 0xD2 (R276). -/
def execUnsupportedD2 (s : State) : Result := badOpcode s

/-- Byte 0xD3 (R276). -/
def execUnsupportedD3 (s : State) : Result := badOpcode s

/-- Byte 0xD4 (R276). -/
def execUnsupportedD4 (s : State) : Result := badOpcode s

/-- Byte 0xD5 (R276). -/
def execUnsupportedD5 (s : State) : Result := badOpcode s

/-- Byte 0xD6 (R276). -/
def execUnsupportedD6 (s : State) : Result := badOpcode s

/-- Byte 0xD7 (R276). -/
def execUnsupportedD7 (s : State) : Result := badOpcode s

/-- Byte 0xD8 (R276). -/
def execUnsupportedD8 (s : State) : Result := badOpcode s

/-- Byte 0xD9 (R276). -/
def execUnsupportedD9 (s : State) : Result := badOpcode s

/-- Byte 0xDA (R276). -/
def execUnsupportedDA (s : State) : Result := badOpcode s

/-- Byte 0xDB (R276). -/
def execUnsupportedDB (s : State) : Result := badOpcode s

/-- Byte 0xDC (R276). -/
def execUnsupportedDC (s : State) : Result := badOpcode s

/-- Byte 0xDD (R276). -/
def execUnsupportedDD (s : State) : Result := badOpcode s

/-- Byte 0xDE (R276). -/
def execUnsupportedDE (s : State) : Result := badOpcode s

/-- Byte 0xDF (R276). -/
def execUnsupportedDF (s : State) : Result := badOpcode s

/-- Byte 0xE0 (R276). -/
def execUnsupportedE0 (s : State) : Result := badOpcode s

/-- Byte 0xE1 (R276). -/
def execUnsupportedE1 (s : State) : Result := badOpcode s

/-- Byte 0xE2 (R276). -/
def execUnsupportedE2 (s : State) : Result := badOpcode s

/-- Byte 0xE3 (R276). -/
def execUnsupportedE3 (s : State) : Result := badOpcode s

/-- Byte 0xE4 (R276). -/
def execUnsupportedE4 (s : State) : Result := badOpcode s

/-- Byte 0xE5 (R276). -/
def execUnsupportedE5 (s : State) : Result := badOpcode s

/-- Byte 0xE6 (R276). -/
def execUnsupportedE6 (s : State) : Result := badOpcode s

/-- Byte 0xE7 (R276). -/
def execUnsupportedE7 (s : State) : Result := badOpcode s

/-- Byte 0xE8 (R276). -/
def execUnsupportedE8 (s : State) : Result := badOpcode s

/-- Byte 0xE9 (R276). -/
def execUnsupportedE9 (s : State) : Result := badOpcode s

/-- Byte 0xEA (R276). -/
def execUnsupportedEA (s : State) : Result := badOpcode s

/-- Byte 0xEB (R276). -/
def execUnsupportedEB (s : State) : Result := badOpcode s

/-- Byte 0xEC (R276). -/
def execUnsupportedEC (s : State) : Result := badOpcode s

/-- Byte 0xED (R276). -/
def execUnsupportedED (s : State) : Result := badOpcode s

/-- Byte 0xEE (R276). -/
def execUnsupportedEE (s : State) : Result := badOpcode s

/-- Byte 0xEF (R276). -/
def execUnsupportedEF (s : State) : Result := badOpcode s

/-- Byte 0xF0 (R276). -/
def execUnsupportedF0 (s : State) : Result := badOpcode s

/-- Byte 0xF1 (R276). -/
def execUnsupportedF1 (s : State) : Result := badOpcode s

/-- Byte 0xF2 (R276). -/
def execUnsupportedF2 (s : State) : Result := badOpcode s

/-- Byte 0xF3 (R276). -/
def execUnsupportedF3 (s : State) : Result := badOpcode s

/-- Byte 0xF4 (R276). -/
def execUnsupportedF4 (s : State) : Result := badOpcode s

/-- Byte 0xF5 (R276). -/
def execUnsupportedF5 (s : State) : Result := badOpcode s

/-- Byte 0xF6 (R276). -/
def execUnsupportedF6 (s : State) : Result := badOpcode s

/-- Byte 0xF7 (R276). -/
def execUnsupportedF7 (s : State) : Result := badOpcode s

/-- Byte 0xF8 (R276). -/
def execUnsupportedF8 (s : State) : Result := badOpcode s

/-- Byte 0xF9 (R276). -/
def execUnsupportedF9 (s : State) : Result := badOpcode s

/-- Byte 0xFA (R276). -/
def execUnsupportedFA (s : State) : Result := badOpcode s

/-- Byte 0xFB (R276). -/
def execUnsupportedFB (s : State) : Result := badOpcode s

/-- Byte 0xFC (R276). -/
def execUnsupportedFC (s : State) : Result := badOpcode s

/-- Byte 0xFD (R276). -/
def execUnsupportedFD (s : State) : Result := badOpcode s

/-- Byte 0xFE (R276). -/
def execUnsupportedFE (s : State) : Result := badOpcode s

/-- Byte 0xFF (R276). -/
def execUnsupportedFF (s : State) : Result := badOpcode s

end Sys2Proof.Machine
end

