-- ==== Sys2Proof/Machine/ShaCmds.lean ====
section
/-! DEFINITION. The SHA-256 engine's commands (40_sha256.md R132, R133). -/

namespace Sys2Proof.Machine

/-- SHAINIT (R132): SW is not read. -/
def execShainit (s : State) : Result := finish { s with sh := initialHash } false

/-- SHACOMP (R133): SW is left unchanged (10_state.md R36). -/
def execShacomp (s : State) : Result := finish { s with sh := compress s.sh s.sw.toList } false

end Sys2Proof.Machine
end

