-- ==== Sys2Proof/Machine/TxCmds.lean ====
section
/-! DEFINITION. The transaction unit's commands (45_tx_sighash.md R308, 44_script.md R287). -/

namespace Sys2Proof.Machine

/-- SIGHASH (R308). -/
def execSighash (rd : Fin 16) (s : State) : Result :=
  checkedTx s fun tx _ => finish (writeB s rd (sighashZ tx s.inidx.toNat (spkBytes s))) false

/-- SCRIPT (R287): its checks, then the start of the evaluation, which the script commands carry on and
`finishEvaluation` ends (log entry 5). -/
def execScript (s : State) : Result := checkedTx s fun tx x => startScript s tx x.scriptSig

/-- The end of an evaluation whose commands have all run: the verdict completes SCRIPT (R283, R287). -/
def finishEvaluation (s : State) (v : Vm) : Result := .next (finishScript s (verdict v))

end Sys2Proof.Machine
end

