-- ==== Sys2Proof/Machine/Dispatch.lean ====
section
/-! DEFINITION. The meaning of each instruction: one arm per constructor of Instr. -/

namespace Sys2Proof.Machine

def exec (i : Instr) (s : State) : Host.Outcome State Fault Refusal :=
  match i with
  | .nop => Sys2Proof.Machine.execNop s
  | .mov rd ra => Sys2Proof.Machine.execMov rd ra s
  | .ldk rd k => Sys2Proof.Machine.execLdk rd k s
  | .fadd rd ra rb => Sys2Proof.Machine.execFadd rd ra rb s
  | .fsub rd ra rb => Sys2Proof.Machine.execFsub rd ra rb s
  | .fmul rd ra rb => Sys2Proof.Machine.execFmul rd ra rb s
  | .finv rd ra => Sys2Proof.Machine.execFinv rd ra s
  | .fpow rd ra rb => Sys2Proof.Machine.execFpow rd ra rb s
  | .fsqrt rd ra => Sys2Proof.Machine.execFsqrt rd ra s
  | .feq ra rb => Sys2Proof.Machine.execFeq ra rb s
  | .fred rd ra => Sys2Proof.Machine.execFred rd ra s
  | .nadd rd ra rb => Sys2Proof.Machine.execNadd rd ra rb s
  | .nsub rd ra rb => Sys2Proof.Machine.execNsub rd ra rb s
  | .nmul rd ra rb => Sys2Proof.Machine.execNmul rd ra rb s
  | .ninv rd ra => Sys2Proof.Machine.execNinv rd ra s
  | .npow rd ra rb => Sys2Proof.Machine.execNpow rd ra rb s
  | .neq ra rb => Sys2Proof.Machine.execNeq ra rb s
  | .nred rd ra => Sys2Proof.Machine.execNred rd ra s
  | .padd pd pa pb => Sys2Proof.Machine.execPadd pd pa pb s
  | .pdbl pd pa => Sys2Proof.Machine.execPdbl pd pa s
  | .pmul pd pa rb => Sys2Proof.Machine.execPmul pd pa rb s
  | .pldg pd => Sys2Proof.Machine.execPldg pd s
  | .pchk pa => Sys2Proof.Machine.execPchk pa s
  | .pmov pd pa => Sys2Proof.Machine.execPmov pd pa s
  | .shainit => Sys2Proof.Machine.execShainit s
  | .shacomp => Sys2Proof.Machine.execShacomp s
  | .esign rd rc ra rb => Sys2Proof.Machine.execEsign rd rc ra rb s
  | .everify pd ra rb rc => Sys2Proof.Machine.execEverify pd ra rb rc s
  | .sighash rd => Sys2Proof.Machine.execSighash rd s
  | .script => Sys2Proof.Machine.execScript s
  | .op0 => Sys2Proof.Machine.execOp0 s
  | .pushBytes1 data => Sys2Proof.Machine.execPushBytes1 data s
  | .pushBytes2 data => Sys2Proof.Machine.execPushBytes2 data s
  | .pushBytes3 data => Sys2Proof.Machine.execPushBytes3 data s
  | .pushBytes4 data => Sys2Proof.Machine.execPushBytes4 data s
  | .pushBytes5 data => Sys2Proof.Machine.execPushBytes5 data s
  | .pushBytes6 data => Sys2Proof.Machine.execPushBytes6 data s
  | .pushBytes7 data => Sys2Proof.Machine.execPushBytes7 data s
  | .pushBytes8 data => Sys2Proof.Machine.execPushBytes8 data s
  | .pushBytes9 data => Sys2Proof.Machine.execPushBytes9 data s
  | .pushBytes10 data => Sys2Proof.Machine.execPushBytes10 data s
  | .pushBytes11 data => Sys2Proof.Machine.execPushBytes11 data s
  | .pushBytes12 data => Sys2Proof.Machine.execPushBytes12 data s
  | .pushBytes13 data => Sys2Proof.Machine.execPushBytes13 data s
  | .pushBytes14 data => Sys2Proof.Machine.execPushBytes14 data s
  | .pushBytes15 data => Sys2Proof.Machine.execPushBytes15 data s
  | .pushBytes16 data => Sys2Proof.Machine.execPushBytes16 data s
  | .pushBytes17 data => Sys2Proof.Machine.execPushBytes17 data s
  | .pushBytes18 data => Sys2Proof.Machine.execPushBytes18 data s
  | .pushBytes19 data => Sys2Proof.Machine.execPushBytes19 data s
  | .pushBytes20 data => Sys2Proof.Machine.execPushBytes20 data s
  | .pushBytes21 data => Sys2Proof.Machine.execPushBytes21 data s
  | .pushBytes22 data => Sys2Proof.Machine.execPushBytes22 data s
  | .pushBytes23 data => Sys2Proof.Machine.execPushBytes23 data s
  | .pushBytes24 data => Sys2Proof.Machine.execPushBytes24 data s
  | .pushBytes25 data => Sys2Proof.Machine.execPushBytes25 data s
  | .pushBytes26 data => Sys2Proof.Machine.execPushBytes26 data s
  | .pushBytes27 data => Sys2Proof.Machine.execPushBytes27 data s
  | .pushBytes28 data => Sys2Proof.Machine.execPushBytes28 data s
  | .pushBytes29 data => Sys2Proof.Machine.execPushBytes29 data s
  | .pushBytes30 data => Sys2Proof.Machine.execPushBytes30 data s
  | .pushBytes31 data => Sys2Proof.Machine.execPushBytes31 data s
  | .pushBytes32 data => Sys2Proof.Machine.execPushBytes32 data s
  | .pushBytes33 data => Sys2Proof.Machine.execPushBytes33 data s
  | .pushBytes34 data => Sys2Proof.Machine.execPushBytes34 data s
  | .pushBytes35 data => Sys2Proof.Machine.execPushBytes35 data s
  | .pushBytes36 data => Sys2Proof.Machine.execPushBytes36 data s
  | .pushBytes37 data => Sys2Proof.Machine.execPushBytes37 data s
  | .pushBytes38 data => Sys2Proof.Machine.execPushBytes38 data s
  | .pushBytes39 data => Sys2Proof.Machine.execPushBytes39 data s
  | .pushBytes40 data => Sys2Proof.Machine.execPushBytes40 data s
  | .pushBytes41 data => Sys2Proof.Machine.execPushBytes41 data s
  | .pushBytes42 data => Sys2Proof.Machine.execPushBytes42 data s
  | .pushBytes43 data => Sys2Proof.Machine.execPushBytes43 data s
  | .pushBytes44 data => Sys2Proof.Machine.execPushBytes44 data s
  | .pushBytes45 data => Sys2Proof.Machine.execPushBytes45 data s
  | .pushBytes46 data => Sys2Proof.Machine.execPushBytes46 data s
  | .pushBytes47 data => Sys2Proof.Machine.execPushBytes47 data s
  | .pushBytes48 data => Sys2Proof.Machine.execPushBytes48 data s
  | .pushBytes49 data => Sys2Proof.Machine.execPushBytes49 data s
  | .pushBytes50 data => Sys2Proof.Machine.execPushBytes50 data s
  | .pushBytes51 data => Sys2Proof.Machine.execPushBytes51 data s
  | .pushBytes52 data => Sys2Proof.Machine.execPushBytes52 data s
  | .pushBytes53 data => Sys2Proof.Machine.execPushBytes53 data s
  | .pushBytes54 data => Sys2Proof.Machine.execPushBytes54 data s
  | .pushBytes55 data => Sys2Proof.Machine.execPushBytes55 data s
  | .pushBytes56 data => Sys2Proof.Machine.execPushBytes56 data s
  | .pushBytes57 data => Sys2Proof.Machine.execPushBytes57 data s
  | .pushBytes58 data => Sys2Proof.Machine.execPushBytes58 data s
  | .pushBytes59 data => Sys2Proof.Machine.execPushBytes59 data s
  | .pushBytes60 data => Sys2Proof.Machine.execPushBytes60 data s
  | .pushBytes61 data => Sys2Proof.Machine.execPushBytes61 data s
  | .pushBytes62 data => Sys2Proof.Machine.execPushBytes62 data s
  | .pushBytes63 data => Sys2Proof.Machine.execPushBytes63 data s
  | .pushBytes64 data => Sys2Proof.Machine.execPushBytes64 data s
  | .pushBytes65 data => Sys2Proof.Machine.execPushBytes65 data s
  | .pushBytes66 data => Sys2Proof.Machine.execPushBytes66 data s
  | .pushBytes67 data => Sys2Proof.Machine.execPushBytes67 data s
  | .pushBytes68 data => Sys2Proof.Machine.execPushBytes68 data s
  | .pushBytes69 data => Sys2Proof.Machine.execPushBytes69 data s
  | .pushBytes70 data => Sys2Proof.Machine.execPushBytes70 data s
  | .pushBytes71 data => Sys2Proof.Machine.execPushBytes71 data s
  | .pushBytes72 data => Sys2Proof.Machine.execPushBytes72 data s
  | .pushBytes73 data => Sys2Proof.Machine.execPushBytes73 data s
  | .pushBytes74 data => Sys2Proof.Machine.execPushBytes74 data s
  | .pushBytes75 data => Sys2Proof.Machine.execPushBytes75 data s
  | .opPushData1 data => Sys2Proof.Machine.execOpPushData1 data s
  | .opPushData2 data => Sys2Proof.Machine.execOpPushData2 data s
  | .opPushData4 data => Sys2Proof.Machine.execOpPushData4 data s
  | .unsupported4F => Sys2Proof.Machine.execUnsupported4F s
  | .unsupported50 => Sys2Proof.Machine.execUnsupported50 s
  | .op1 => Sys2Proof.Machine.execOp1 s
  | .op2 => Sys2Proof.Machine.execOp2 s
  | .op3 => Sys2Proof.Machine.execOp3 s
  | .op4 => Sys2Proof.Machine.execOp4 s
  | .op5 => Sys2Proof.Machine.execOp5 s
  | .op6 => Sys2Proof.Machine.execOp6 s
  | .op7 => Sys2Proof.Machine.execOp7 s
  | .op8 => Sys2Proof.Machine.execOp8 s
  | .op9 => Sys2Proof.Machine.execOp9 s
  | .op10 => Sys2Proof.Machine.execOp10 s
  | .op11 => Sys2Proof.Machine.execOp11 s
  | .op12 => Sys2Proof.Machine.execOp12 s
  | .op13 => Sys2Proof.Machine.execOp13 s
  | .op14 => Sys2Proof.Machine.execOp14 s
  | .op15 => Sys2Proof.Machine.execOp15 s
  | .op16 => Sys2Proof.Machine.execOp16 s
  | .unsupported61 => Sys2Proof.Machine.execUnsupported61 s
  | .unsupported62 => Sys2Proof.Machine.execUnsupported62 s
  | .unsupported63 => Sys2Proof.Machine.execUnsupported63 s
  | .unsupported64 => Sys2Proof.Machine.execUnsupported64 s
  | .unsupported65 => Sys2Proof.Machine.execUnsupported65 s
  | .unsupported66 => Sys2Proof.Machine.execUnsupported66 s
  | .unsupported67 => Sys2Proof.Machine.execUnsupported67 s
  | .unsupported68 => Sys2Proof.Machine.execUnsupported68 s
  | .unsupported69 => Sys2Proof.Machine.execUnsupported69 s
  | .unsupported6A => Sys2Proof.Machine.execUnsupported6A s
  | .unsupported6B => Sys2Proof.Machine.execUnsupported6B s
  | .unsupported6C => Sys2Proof.Machine.execUnsupported6C s
  | .unsupported6D => Sys2Proof.Machine.execUnsupported6D s
  | .unsupported6E => Sys2Proof.Machine.execUnsupported6E s
  | .unsupported6F => Sys2Proof.Machine.execUnsupported6F s
  | .unsupported70 => Sys2Proof.Machine.execUnsupported70 s
  | .unsupported71 => Sys2Proof.Machine.execUnsupported71 s
  | .unsupported72 => Sys2Proof.Machine.execUnsupported72 s
  | .unsupported73 => Sys2Proof.Machine.execUnsupported73 s
  | .unsupported74 => Sys2Proof.Machine.execUnsupported74 s
  | .unsupported75 => Sys2Proof.Machine.execUnsupported75 s
  | .opDup => Sys2Proof.Machine.execOpDup s
  | .unsupported77 => Sys2Proof.Machine.execUnsupported77 s
  | .unsupported78 => Sys2Proof.Machine.execUnsupported78 s
  | .unsupported79 => Sys2Proof.Machine.execUnsupported79 s
  | .unsupported7A => Sys2Proof.Machine.execUnsupported7A s
  | .unsupported7B => Sys2Proof.Machine.execUnsupported7B s
  | .unsupported7C => Sys2Proof.Machine.execUnsupported7C s
  | .unsupported7D => Sys2Proof.Machine.execUnsupported7D s
  | .unsupported7E => Sys2Proof.Machine.execUnsupported7E s
  | .unsupported7F => Sys2Proof.Machine.execUnsupported7F s
  | .unsupported80 => Sys2Proof.Machine.execUnsupported80 s
  | .unsupported81 => Sys2Proof.Machine.execUnsupported81 s
  | .unsupported82 => Sys2Proof.Machine.execUnsupported82 s
  | .unsupported83 => Sys2Proof.Machine.execUnsupported83 s
  | .unsupported84 => Sys2Proof.Machine.execUnsupported84 s
  | .unsupported85 => Sys2Proof.Machine.execUnsupported85 s
  | .unsupported86 => Sys2Proof.Machine.execUnsupported86 s
  | .unsupported87 => Sys2Proof.Machine.execUnsupported87 s
  | .opEqualVerify => Sys2Proof.Machine.execOpEqualVerify s
  | .unsupported89 => Sys2Proof.Machine.execUnsupported89 s
  | .unsupported8A => Sys2Proof.Machine.execUnsupported8A s
  | .unsupported8B => Sys2Proof.Machine.execUnsupported8B s
  | .unsupported8C => Sys2Proof.Machine.execUnsupported8C s
  | .unsupported8D => Sys2Proof.Machine.execUnsupported8D s
  | .unsupported8E => Sys2Proof.Machine.execUnsupported8E s
  | .unsupported8F => Sys2Proof.Machine.execUnsupported8F s
  | .unsupported90 => Sys2Proof.Machine.execUnsupported90 s
  | .unsupported91 => Sys2Proof.Machine.execUnsupported91 s
  | .unsupported92 => Sys2Proof.Machine.execUnsupported92 s
  | .unsupported93 => Sys2Proof.Machine.execUnsupported93 s
  | .unsupported94 => Sys2Proof.Machine.execUnsupported94 s
  | .unsupported95 => Sys2Proof.Machine.execUnsupported95 s
  | .unsupported96 => Sys2Proof.Machine.execUnsupported96 s
  | .unsupported97 => Sys2Proof.Machine.execUnsupported97 s
  | .unsupported98 => Sys2Proof.Machine.execUnsupported98 s
  | .unsupported99 => Sys2Proof.Machine.execUnsupported99 s
  | .unsupported9A => Sys2Proof.Machine.execUnsupported9A s
  | .unsupported9B => Sys2Proof.Machine.execUnsupported9B s
  | .unsupported9C => Sys2Proof.Machine.execUnsupported9C s
  | .unsupported9D => Sys2Proof.Machine.execUnsupported9D s
  | .unsupported9E => Sys2Proof.Machine.execUnsupported9E s
  | .unsupported9F => Sys2Proof.Machine.execUnsupported9F s
  | .unsupportedA0 => Sys2Proof.Machine.execUnsupportedA0 s
  | .unsupportedA1 => Sys2Proof.Machine.execUnsupportedA1 s
  | .unsupportedA2 => Sys2Proof.Machine.execUnsupportedA2 s
  | .unsupportedA3 => Sys2Proof.Machine.execUnsupportedA3 s
  | .unsupportedA4 => Sys2Proof.Machine.execUnsupportedA4 s
  | .unsupportedA5 => Sys2Proof.Machine.execUnsupportedA5 s
  | .unsupportedA6 => Sys2Proof.Machine.execUnsupportedA6 s
  | .unsupportedA7 => Sys2Proof.Machine.execUnsupportedA7 s
  | .unsupportedA8 => Sys2Proof.Machine.execUnsupportedA8 s
  | .opHash160 => Sys2Proof.Machine.execOpHash160 s
  | .unsupportedAA => Sys2Proof.Machine.execUnsupportedAA s
  | .unsupportedAB => Sys2Proof.Machine.execUnsupportedAB s
  | .opCheckSig => Sys2Proof.Machine.execOpCheckSig s
  | .unsupportedAD => Sys2Proof.Machine.execUnsupportedAD s
  | .unsupportedAE => Sys2Proof.Machine.execUnsupportedAE s
  | .unsupportedAF => Sys2Proof.Machine.execUnsupportedAF s
  | .unsupportedB0 => Sys2Proof.Machine.execUnsupportedB0 s
  | .unsupportedB1 => Sys2Proof.Machine.execUnsupportedB1 s
  | .unsupportedB2 => Sys2Proof.Machine.execUnsupportedB2 s
  | .unsupportedB3 => Sys2Proof.Machine.execUnsupportedB3 s
  | .unsupportedB4 => Sys2Proof.Machine.execUnsupportedB4 s
  | .unsupportedB5 => Sys2Proof.Machine.execUnsupportedB5 s
  | .unsupportedB6 => Sys2Proof.Machine.execUnsupportedB6 s
  | .unsupportedB7 => Sys2Proof.Machine.execUnsupportedB7 s
  | .unsupportedB8 => Sys2Proof.Machine.execUnsupportedB8 s
  | .unsupportedB9 => Sys2Proof.Machine.execUnsupportedB9 s
  | .unsupportedBA => Sys2Proof.Machine.execUnsupportedBA s
  | .unsupportedBB => Sys2Proof.Machine.execUnsupportedBB s
  | .unsupportedBC => Sys2Proof.Machine.execUnsupportedBC s
  | .unsupportedBD => Sys2Proof.Machine.execUnsupportedBD s
  | .unsupportedBE => Sys2Proof.Machine.execUnsupportedBE s
  | .unsupportedBF => Sys2Proof.Machine.execUnsupportedBF s
  | .unsupportedC0 => Sys2Proof.Machine.execUnsupportedC0 s
  | .unsupportedC1 => Sys2Proof.Machine.execUnsupportedC1 s
  | .unsupportedC2 => Sys2Proof.Machine.execUnsupportedC2 s
  | .unsupportedC3 => Sys2Proof.Machine.execUnsupportedC3 s
  | .unsupportedC4 => Sys2Proof.Machine.execUnsupportedC4 s
  | .unsupportedC5 => Sys2Proof.Machine.execUnsupportedC5 s
  | .unsupportedC6 => Sys2Proof.Machine.execUnsupportedC6 s
  | .unsupportedC7 => Sys2Proof.Machine.execUnsupportedC7 s
  | .unsupportedC8 => Sys2Proof.Machine.execUnsupportedC8 s
  | .unsupportedC9 => Sys2Proof.Machine.execUnsupportedC9 s
  | .unsupportedCA => Sys2Proof.Machine.execUnsupportedCA s
  | .unsupportedCB => Sys2Proof.Machine.execUnsupportedCB s
  | .unsupportedCC => Sys2Proof.Machine.execUnsupportedCC s
  | .unsupportedCD => Sys2Proof.Machine.execUnsupportedCD s
  | .unsupportedCE => Sys2Proof.Machine.execUnsupportedCE s
  | .unsupportedCF => Sys2Proof.Machine.execUnsupportedCF s
  | .unsupportedD0 => Sys2Proof.Machine.execUnsupportedD0 s
  | .unsupportedD1 => Sys2Proof.Machine.execUnsupportedD1 s
  | .unsupportedD2 => Sys2Proof.Machine.execUnsupportedD2 s
  | .unsupportedD3 => Sys2Proof.Machine.execUnsupportedD3 s
  | .unsupportedD4 => Sys2Proof.Machine.execUnsupportedD4 s
  | .unsupportedD5 => Sys2Proof.Machine.execUnsupportedD5 s
  | .unsupportedD6 => Sys2Proof.Machine.execUnsupportedD6 s
  | .unsupportedD7 => Sys2Proof.Machine.execUnsupportedD7 s
  | .unsupportedD8 => Sys2Proof.Machine.execUnsupportedD8 s
  | .unsupportedD9 => Sys2Proof.Machine.execUnsupportedD9 s
  | .unsupportedDA => Sys2Proof.Machine.execUnsupportedDA s
  | .unsupportedDB => Sys2Proof.Machine.execUnsupportedDB s
  | .unsupportedDC => Sys2Proof.Machine.execUnsupportedDC s
  | .unsupportedDD => Sys2Proof.Machine.execUnsupportedDD s
  | .unsupportedDE => Sys2Proof.Machine.execUnsupportedDE s
  | .unsupportedDF => Sys2Proof.Machine.execUnsupportedDF s
  | .unsupportedE0 => Sys2Proof.Machine.execUnsupportedE0 s
  | .unsupportedE1 => Sys2Proof.Machine.execUnsupportedE1 s
  | .unsupportedE2 => Sys2Proof.Machine.execUnsupportedE2 s
  | .unsupportedE3 => Sys2Proof.Machine.execUnsupportedE3 s
  | .unsupportedE4 => Sys2Proof.Machine.execUnsupportedE4 s
  | .unsupportedE5 => Sys2Proof.Machine.execUnsupportedE5 s
  | .unsupportedE6 => Sys2Proof.Machine.execUnsupportedE6 s
  | .unsupportedE7 => Sys2Proof.Machine.execUnsupportedE7 s
  | .unsupportedE8 => Sys2Proof.Machine.execUnsupportedE8 s
  | .unsupportedE9 => Sys2Proof.Machine.execUnsupportedE9 s
  | .unsupportedEA => Sys2Proof.Machine.execUnsupportedEA s
  | .unsupportedEB => Sys2Proof.Machine.execUnsupportedEB s
  | .unsupportedEC => Sys2Proof.Machine.execUnsupportedEC s
  | .unsupportedED => Sys2Proof.Machine.execUnsupportedED s
  | .unsupportedEE => Sys2Proof.Machine.execUnsupportedEE s
  | .unsupportedEF => Sys2Proof.Machine.execUnsupportedEF s
  | .unsupportedF0 => Sys2Proof.Machine.execUnsupportedF0 s
  | .unsupportedF1 => Sys2Proof.Machine.execUnsupportedF1 s
  | .unsupportedF2 => Sys2Proof.Machine.execUnsupportedF2 s
  | .unsupportedF3 => Sys2Proof.Machine.execUnsupportedF3 s
  | .unsupportedF4 => Sys2Proof.Machine.execUnsupportedF4 s
  | .unsupportedF5 => Sys2Proof.Machine.execUnsupportedF5 s
  | .unsupportedF6 => Sys2Proof.Machine.execUnsupportedF6 s
  | .unsupportedF7 => Sys2Proof.Machine.execUnsupportedF7 s
  | .unsupportedF8 => Sys2Proof.Machine.execUnsupportedF8 s
  | .unsupportedF9 => Sys2Proof.Machine.execUnsupportedF9 s
  | .unsupportedFA => Sys2Proof.Machine.execUnsupportedFA s
  | .unsupportedFB => Sys2Proof.Machine.execUnsupportedFB s
  | .unsupportedFC => Sys2Proof.Machine.execUnsupportedFC s
  | .unsupportedFD => Sys2Proof.Machine.execUnsupportedFD s
  | .unsupportedFE => Sys2Proof.Machine.execUnsupportedFE s
  | .unsupportedFF => Sys2Proof.Machine.execUnsupportedFF s

end Sys2Proof.Machine
end

