-- ==== Sys2Proof/Machine/Engine.lean ====
section
/-! DEFINITION. The engine (00_scope.md R17): which instruction it runs next, one step of it, and how an instruction
is placed where that step fetches it. -/

namespace Sys2Proof.Machine

/-- What the engine does next while BUSY. -/
inductive Fetched where
  /-- It runs an instruction: the command in CMD, or the next command of the script in progress. -/
  | run (i : Instr)
  /-- The word in CMD is illegal (30_encoding.md R104). -/
  | illegal
  /-- The script in progress has no command left (44_script.md R280). -/
  | scriptEnd (v : Vm)

/-- The engine's fetch: prog[ip] of a script in progress (R280), else the word in CMD (10_state.md R54). -/
def fetch (s : State) : Fetched :=
  match s.vm with
  | some v =>
    match v.prog[v.ip]? with
    | some i => .run i
    | none => .scriptEnd v
  | none =>
    match decodeCommand s.cmd with
    | .ok i => .run i
    | .error _ => .illegal

/-- One step of the engine: nothing while IDLE (60_exceptions.md R351, log entry 14), else what it fetched. -/
def engineStep (s : State) : Result :=
  if s.status.busy then
    match fetch s with
    | .run i => exec i s
    | .illegal => raise s .illegal
    | .scriptEnd v => finishEvaluation s v
  else .next s

/-- One step of the machine: the next host event where it may land now, else the engine (log entry 4). -/
def machineStep (s : State) : Result :=
  match s.bus with
  | [] => engineStep s
  | e :: rest =>
    if s.status.busy && !e.whileBusy then engineStep s else .next (hostEvent { s with bus := rest } e.op)

/-- The state with a command word accepted and nothing else in the way: the engine runs it next (R42). -/
def placeCommand (s : State) (w : Word) : State :=
  acceptCommand { s with bus := [], resetLine := false } w

/-- A transaction with nothing in it, for a script placed without one. -/
def emptyTx : Tx :=
  { version := List.replicate 4 0, segwit := false, ins := [], outs := [], witnesses := [],
    locktime := List.replicate 4 0 }

/-- The state with SCRIPT accepted and started on a program: the engine runs its first command next. -/
def placeScript (s : State) (prog : List Instr) : State :=
  { placeCommand s 0x00000051 with vm := some (vmStart prog ((parseTx (txBytes s)).getD emptyTx)) }

/-- The instruction a table row's bits stand for, placed where the engine fetches next: a command word in CMD, a
script command as the program of a SCRIPT in progress (log entries 10 and 18). -/
def placeInstr (s : State) (nbits w : Nat) : State :=
  if nbits ≤ 8 then placeScript s (decodeTableWord nbits w).toList else placeCommand s (BitVec.ofNat 32 w)

end Sys2Proof.Machine
end

