-- ==== Sys2Proof/Machine/Step.lean ====
section
/-! DEFINITION. One step of the machine, and the placing of an instruction where the step fetches. -/

namespace Sys2Proof.Machine

/-- One step: a host event, or a step of the engine. -/
def step (s : State) : Host.Outcome State Fault Refusal := machineStep s

/-- `s` with the instruction whose bits are `w` stored where `step` fetches its next instruction. -/
def State.withFetchWord (s : State) (nbits w : Nat) : State := placeInstr s nbits w

end Sys2Proof.Machine
end

