-- ==== Sys2Proof/Machine/Reference.lean ====
section
/-! DEFINITION. The spec's own big-step forms of what the machine computes in another shape, for claims to compare the
machine with: the schedule and rounds of 40_sha256.md R133 by index, the loop of 42_curve.md R206 over bit numbers,
SCRIPT_PARSE and EVAL of 44_script.md R261 and R280, and the canonical DER encoding of 43_ecdsa.md R241. No step of the
machine calls them. -/

namespace Sys2Proof.Machine

/-! ## SHA-256 compression by index (R133) -/

/-- W[0 .. 16+t) of a block: W[16+t] is σ1(W[t+14]) + W[t+9] + σ0(W[t+1]) + W[t]. -/
def refSchedule (block : List Word) : Nat → List Word
  | 0 => block
  | t + 1 =>
    refSchedule block t ++
      [smallSigma1 ((refSchedule block t).getD (t + 14) 0) + (refSchedule block t).getD (t + 9) 0 +
        smallSigma0 ((refSchedule block t).getD (t + 1) 0) + (refSchedule block t).getD t 0]

/-- The working variables after rounds 0 to n−1. -/
def refRounds (h : Vector Word 8) (block : List Word) (n : Nat) : Working :=
  (List.range n).foldl
    (fun v t => shaRound v (roundConstants.getD t 0, (refSchedule block 48).getD t 0)) (workingOf h)

/-- The chaining value after one block. -/
def refCompress (h : Vector Word 8) (block : List Word) : Vector Word 8 := addWorking h (refRounds h block 64)

/-! ## Scalar multiplication by bit number (R206) -/

/-- `for i in 255 downto 0: R <- ADD(R, R); if k[i] = 1: R <- ADD(R, Q)`. -/
def refPointMul (k : Nat) (q : Point) : Point :=
  (List.range 256).reverse.foldl
    (fun r i => if k.testBit i then pointAdd (pointAdd r r) q else pointAdd r r) .infinity

/-! ## Script parsing and evaluation (R261, R280) -/

/-- A parsed script command: an opcode byte, or the data of a push; the push's form is not kept (R261). -/
inductive RefCommand where
  | op (b : Byte)
  | data (x : Bytes)
deriving DecidableEq, Repr

/-- How many bytes a length field takes after first byte `b`, and for PUSHBYTES the length itself; `none` for an
opcode (R261). -/
def refLength (b : Byte) (rest : Bytes) : Option (Option (Nat × Bytes)) :=
  if 0x01 ≤ b.toNat ∧ b.toNat ≤ 0x4B then some (some (b.toNat, rest))
  else if b.toNat = 0x4C then some (if rest.length < 1 then none else some (intLe (rest.take 1), rest.drop 1))
  else if b.toNat = 0x4D then some (if rest.length < 2 then none else some (intLe (rest.take 2), rest.drop 2))
  else if b.toNat = 0x4E then some (if rest.length < 4 then none else some (intLe (rest.take 4), rest.drop 4))
  else none

/-- The loop of SCRIPT_PARSE, with fuel; `none` is FAIL (R261). -/
def refParseFuel : Nat → Bytes → Option (List RefCommand)
  | _, [] => some []
  | 0, _ :: _ => none
  | fuel + 1, b :: rest =>
    match refLength b rest with
    | none => (refParseFuel fuel rest).map (RefCommand.op b :: ·)
    | some none => none
    | some (some (l, more)) =>
      if more.length < l then none
      else (refParseFuel fuel (more.drop l)).map (RefCommand.data (more.take l) :: ·)

/-- `SCRIPT_PARSE(body)` (R261). -/
def refParse (body : Bytes) : Option (List RefCommand) := refParseFuel body.length body

/-- The VM state EVAL carries: the stack, its head the top, and CHKFAIL (R263). -/
structure RefVm where
  stack : List Bytes
  chkfail : Bool
deriving DecidableEq, Repr

/-- `push(x)` (R264). -/
def refPush (v : RefVm) (x : Bytes) : Except Reason RefVm :=
  if x.length > 520 then .error .elemSize
  else if v.stack.length = 1000 then .error .stackOverflow
  else .ok { v with stack := x :: v.stack }

/-- OP_CHECKSIG on the digest `z` (R275). -/
def refCheckSig (z : Nat) (v : RefVm) : Except Reason RefVm :=
  match v.stack with
  | pub :: sig :: rest =>
    if sig = [] ∨ sig.getLast? ≠ some 0x01 then .error .sighashType
    else
      match secDecode pub with
      | none => .error .badPubkey
      | some q =>
        match derDecode (sig.take (sig.length - 1)) with
        | none => .error .badDer
        | some rs =>
          if verify q z rs.1 rs.2 then refPush { v with stack := rest } [0x01]
          else refPush { stack := rest, chkfail := true } [0x00]
  | _ => .error .underflow

/-- One script command, by rules R269 to R276; `.error` is `fail(reason)`. -/
def refExec (z : Nat) (v : RefVm) : RefCommand → Except Reason RefVm
  | .data x => refPush v x
  | .op b =>
    if b = 0x00 then refPush v []
    else if 0x51 ≤ b.toNat ∧ b.toNat ≤ 0x60 then refPush v [BitVec.ofNat 8 (b.toNat - 0x50)]
    else if b = 0x76 then
      match v.stack with
      | [] => .error .underflow
      | x :: _ => refPush v x
    else if b = 0xA9 then
      match v.stack with
      | [] => .error .underflow
      | x :: rest => refPush { v with stack := rest } (hash160 x)
    else if b = 0x88 then
      match v.stack with
      | a :: b :: rest => if a = b then .ok { v with stack := rest } else .error .equalVerify
      | _ => .error .underflow
    else if b = 0xAC then refCheckSig z v
    else .error .badOpcode

/-- The evaluation loop and the verdict (R280, R283). -/
def refRun (z : Nat) (v : RefVm) : List RefCommand → Reason
  | [] =>
    match v.stack with
    | [] => .emptyEnd
    | top :: _ =>
      if ¬ (1 ≤ top.length ∧ ∃ b ∈ top, b ≠ 0) then .falseTop
      else if v.chkfail then .checkSigFalse
      else .accept
  | c :: cs =>
    match refExec z v c with
    | .error reason => reason
    | .ok v' => refRun z v' cs

/-- `EVAL(script_sig, script_pubkey, tx, i)` as its reason; its verdict is true for ACCEPT alone (R262, R280). -/
def refEval (scriptSig scriptPubkey : Bytes) (tx : Tx) (i : Nat) : Reason :=
  match refParse scriptSig with
  | none => .sigParse
  | some a =>
    match refParse scriptPubkey with
    | none => .pubkeyScriptParse
    | some b => refRun (sighashZ tx i scriptPubkey) { stack := [], chkfail := false } (a ++ b)

/-! ## ESIGN's candidate stream (R231) -/

/-- The stream's K and V before its candidate number `j`, every earlier one passed over. -/
def nonceStream (e z : Nat) : Nat → Nonce
  | 0 => nonceStart e z
  | j + 1 => nonceReject (nonceStream e z j)

/-- Candidate number `j` of the stream, in or out of range. -/
def candidate (e z j : Nat) : Nat := intBe (nonceValue (nonceStream e z j))

/-! ## The canonical DER encoding (R241) -/

/-- An integer in the fewest big-endian bytes whose first is below 0x80. -/
def derInt (v : Nat) : Bytes := beBytes ((Nat.log2 v + 1) / 8 + 1) v

/-- `0x30‖len‖0x02‖len(r)‖r‖0x02‖len(s)‖s` (00_scope.md R16). -/
def derEncode (r s : Nat) : Bytes :=
  [0x30, BitVec.ofNat 8 (4 + (derInt r).length + (derInt s).length)] ++
    ([0x02, BitVec.ofNat 8 (derInt r).length] ++ derInt r) ++ ([0x02, BitVec.ofNat 8 (derInt s).length] ++ derInt s)

end Sys2Proof.Machine
end

