-- ==== Sys2Proof/Safety.lean ====
section
/-! DEFINITION. The words claims use: the invariant of the machine, runs of the engine, when no host event comes
between, and which instructions belong to which shape. -/

namespace Sys2Proof.Machine

/-! ## The invariant -/

/-- While BUSY no completion is pending and nothing of the last one shows (10_state.md R42, R43), and the reset input
is released (70_reset_and_hazards.md R360). -/
def BusyClean (s : State) : Prop :=
  s.status.busy = true →
    s.status.done = false ∧ s.status.err = false ∧ s.status.res = false ∧ s.status.ecode = 0 ∧ s.resetLine = false

/-- While IDLE no value of R52 is present: a command leaves none behind. -/
def IdleEmpty (s : State) : Prop := s.status.busy = false → s.vm = none ∧ s.nonce = none

/-- ERR goes with a nonzero code, a fault has RES = 0, and the reserved codes 0x09 to 0xFF are never in ECODE
(R40, R330). -/
def CodesLegal (s : State) : Prop :=
  (s.status.err = true ↔ s.status.ecode ≠ 0) ∧ (s.status.err = true → s.status.res = false) ∧
    s.status.ecode.toNat ≤ 0x08

/-- The reserved reasons 0x0E to 0xFF are never in VMSTAT (R288). -/
def ReasonLegal (s : State) : Prop := s.vmstat.toNat ≤ 0x0D

/-- The script VM keeps its limits, and ip is a place of the program or its end (R263, R264). -/
def VmBounded (s : State) : Prop :=
  ∀ v, s.vm = some v →
    v.stack.length ≤ stackMax ∧ (∀ x ∈ v.stack, x.length ≤ elemMax) ∧ v.ip ≤ v.prog.length

/-- The invariant every step keeps. -/
def Inv (s : State) : Prop :=
  s.mem.wf ∧ BusyClean s ∧ IdleEmpty s ∧ CodesLegal s ∧ ReasonLegal s ∧ VmBounded s

/-! ## Runs -/

/-- A step that does not stop. -/
def Safe (s : State) : Prop := ∃ t, step s = .next t

/-- No host event may land before the running command completes: the next one waits for it. -/
def Quiet (s : State) : Prop := ∀ e ∈ s.bus.head?, e.whileBusy = false

/-- `k` steps of the machine, a stop ending them. -/
def run (k : Nat) (s : State) : Result := Sys2Proof.core.run k s

/-! ## Shapes of instructions -/

/-- A command of 30_encoding.md R101, as its word; `none` for a script command. -/
def commandOf (i : Instr) : Option Word :=
  match encode i with
  | .command w => some w
  | .script _ => none

/-- A script command of R110, as its bytes; `none` for a command of the block. -/
def scriptOf (i : Instr) : Option Bytes :=
  match encode i with
  | .command _ => none
  | .script bs => some bs

/-- `prog` is the list of commands of a script body (44_script.md R261): well-formed script commands, and the body is their
encodings one after the other. -/
def CommandsOf (body : Bytes) (prog : List Instr) : Prop :=
  (∀ i ∈ prog, i.wf = true ∧ (scriptOf i).isSome = true) ∧ body = prog.flatMap fun i => (scriptOf i).getD []

/-- The B registers a command's rule writes (R165 to R181, R232, R308). -/
def destB : Instr → List (Fin 16)
  | .mov rd _ => [rd]
  | .ldk rd _ => [rd]
  | .fadd rd _ _ => [rd]
  | .fsub rd _ _ => [rd]
  | .fmul rd _ _ => [rd]
  | .finv rd _ => [rd]
  | .fpow rd _ _ => [rd]
  | .fsqrt rd _ => [rd]
  | .fred rd _ => [rd]
  | .nadd rd _ _ => [rd]
  | .nsub rd _ _ => [rd]
  | .nmul rd _ _ => [rd]
  | .ninv rd _ => [rd]
  | .npow rd _ _ => [rd]
  | .nred rd _ => [rd]
  | .esign rd rc _ _ => [rd, rc]
  | .sighash rd => [rd]
  | _ => []

/-- The point registers a command's rule writes (R204 to R209). -/
def destP : Instr → List (Fin 8)
  | .padd pd _ _ => [pd]
  | .pdbl pd _ => [pd]
  | .pmul pd _ _ => [pd]
  | .pldg pd => [pd]
  | .pmov pd _ => [pd]
  | _ => []

/-- The instructions that write SH (R35, R132, R133). -/
def writesSh : Instr → Bool
  | .shainit => true
  | .shacomp => true
  | _ => false

/-- The fault codes a command's row of 60_exceptions.md R331 names, with EILLEGAL, which every command can raise. -/
def faultRow : Instr → List FaultCode
  | .fadd _ _ _ => [.illegal, .range]
  | .fsub _ _ _ => [.illegal, .range]
  | .fmul _ _ _ => [.illegal, .range]
  | .fpow _ _ _ => [.illegal, .range]
  | .fsqrt _ _ => [.illegal, .range]
  | .feq _ _ => [.illegal, .range]
  | .nadd _ _ _ => [.illegal, .range]
  | .nsub _ _ _ => [.illegal, .range]
  | .nmul _ _ _ => [.illegal, .range]
  | .npow _ _ _ => [.illegal, .range]
  | .neq _ _ => [.illegal, .range]
  | .finv _ _ => [.illegal, .range, .invz]
  | .ninv _ _ => [.illegal, .range, .invz]
  | .padd _ _ _ => [.illegal, .notCurve]
  | .pdbl _ _ => [.illegal, .notCurve]
  | .pmul _ _ _ => [.illegal, .notCurve]
  | .esign _ _ _ _ => [.illegal, .key]
  | .everify _ _ _ _ => [.illegal, .notCurve, .key]
  | .sighash _ => [.illegal, .len, .parse, .index]
  | .script => [.illegal, .len, .parse, .index]
  | _ => [.illegal]

/-! ## Illegal command words (30_encoding.md R101 to R104) -/

/-- What a row of R101 uses a field for. -/
inductive FieldUse where
  /-- Should be zero (R103). -/
  | sbz
  /-- A B index, all four bits (R102). -/
  | bIndex
  /-- A point index, bit 3 SBZ (R102). -/
  | point
  /-- LDK's constant selector (R102). -/
  | selector
deriving DecidableEq, Repr

/-- The uses of RD, RA, RB and RC in the row of R101 with opcode `op`; `none` for a reserved opcode (R105). -/
def fieldUses : Nat → Option (List FieldUse)
  | 0x00 => some [.sbz, .sbz, .sbz, .sbz]
  | 0x01 => some [.bIndex, .bIndex, .sbz, .sbz]
  | 0x02 => some [.bIndex, .selector, .sbz, .sbz]
  | 0x10 => some [.bIndex, .bIndex, .bIndex, .sbz]
  | 0x11 => some [.bIndex, .bIndex, .bIndex, .sbz]
  | 0x12 => some [.bIndex, .bIndex, .bIndex, .sbz]
  | 0x13 => some [.bIndex, .bIndex, .sbz, .sbz]
  | 0x14 => some [.bIndex, .bIndex, .bIndex, .sbz]
  | 0x15 => some [.bIndex, .bIndex, .sbz, .sbz]
  | 0x16 => some [.sbz, .bIndex, .bIndex, .sbz]
  | 0x17 => some [.bIndex, .bIndex, .sbz, .sbz]
  | 0x18 => some [.bIndex, .bIndex, .bIndex, .sbz]
  | 0x19 => some [.bIndex, .bIndex, .bIndex, .sbz]
  | 0x1A => some [.bIndex, .bIndex, .bIndex, .sbz]
  | 0x1B => some [.bIndex, .bIndex, .sbz, .sbz]
  | 0x1C => some [.bIndex, .bIndex, .bIndex, .sbz]
  | 0x1E => some [.sbz, .bIndex, .bIndex, .sbz]
  | 0x1F => some [.bIndex, .bIndex, .sbz, .sbz]
  | 0x20 => some [.point, .point, .point, .sbz]
  | 0x21 => some [.point, .point, .sbz, .sbz]
  | 0x22 => some [.point, .point, .bIndex, .sbz]
  | 0x23 => some [.point, .sbz, .sbz, .sbz]
  | 0x24 => some [.sbz, .point, .sbz, .sbz]
  | 0x25 => some [.point, .point, .sbz, .sbz]
  | 0x30 => some [.sbz, .sbz, .sbz, .sbz]
  | 0x31 => some [.sbz, .sbz, .sbz, .sbz]
  | 0x40 => some [.bIndex, .bIndex, .bIndex, .bIndex]
  | 0x41 => some [.point, .bIndex, .bIndex, .bIndex]
  | 0x50 => some [.bIndex, .sbz, .sbz, .sbz]
  | 0x51 => some [.sbz, .sbz, .sbz, .sbz]
  | _ => none

/-- A field's value breaks its use: SBZ and not zero, or a point index with bit 3 set (R104(c), (d)). -/
def FieldBroken (use : FieldUse) (value : Nat) : Prop :=
  (use = .sbz ∧ value ≠ 0) ∨ (use = .point ∧ 8 ≤ value)

/-- A command word is illegal: the six conditions of R104, on the fields at the places of R100. -/
def IllegalWord (w : Word) : Prop :=
  let op := w.toNat % 2 ^ 8
  let field (lo : Nat) := w.toNat / 2 ^ lo % 16
  fieldUses op = none ∨
    w.toNat / 2 ^ 24 ≠ 0 ∨
    (∃ uses, fieldUses op = some uses ∧
      ∃ p ∈ uses.zip [field 8, field 12, field 16, field 20], FieldBroken p.1 p.2) ∨
    (op = 0x02 ∧ 6 < field 12) ∨
    (op = 0x40 ∧ field 8 = field 20)

/-! ## Encodings by format (30_encoding.md R100, R101) -/

/-- `op` encodes a command with fields RD, RA and RB, and RC is SBZ. -/
def EncodesThree (op : Nat) (mk : Fin 16 → Fin 16 → Fin 16 → Instr) : Prop :=
  ∀ rd ra rb rc, decodeCommand (commandWord op rd ra rb rc) =
    if rc = 0 then .ok (mk rd ra rb) else .error .sbzNonZero

/-- `op` encodes a command with fields RD and RA, and RB and RC are SBZ. -/
def EncodesTwo (op : Nat) (mk : Fin 16 → Fin 16 → Instr) : Prop :=
  ∀ rd ra rb rc, decodeCommand (commandWord op rd ra rb rc) =
    if rb = 0 ∧ rc = 0 then .ok (mk rd ra) else .error .sbzNonZero

/-- `op` encodes a command with fields RA and RB, and RD and RC are SBZ. -/
def EncodesSources (op : Nat) (mk : Fin 16 → Fin 16 → Instr) : Prop :=
  ∀ rd ra rb rc, decodeCommand (commandWord op rd ra rb rc) =
    if rd = 0 ∧ rc = 0 then .ok (mk ra rb) else .error .sbzNonZero

/-- `op` encodes a command with no field, and RD, RA, RB and RC are SBZ. -/
def EncodesNone (op : Nat) (i : Instr) : Prop :=
  ∀ rd ra rb rc, decodeCommand (commandWord op rd ra rb rc) =
    if rd = 0 ∧ ra = 0 ∧ rb = 0 ∧ rc = 0 then .ok i else .error .sbzNonZero

/-! ## Offsets of the window (20_memory.md R77) -/

/-- Engine-operand state from 0x100 on: B, SH and SW, the point coordinates, TXBUF and SPKBUF. -/
def DataOffset (a : Nat) : Prop :=
  (0x100 ≤ a ∧ a < 0x360) ∨ (0x400 ≤ a ∧ a < 0x600) ∨ (0x1000 ≤ a ∧ a < 0x2400)

/-- Engine-operand state (10_state.md R49): PINF, TXLEN, INIDX and SPKLEN, and the data. -/
def OperandOffset (a : Nat) : Prop := a = 0x14 ∨ a = 0x18 ∨ a = 0x1C ∨ a = 0x20 ∨ DataOffset a

/-- Command-result state (R51): ERRCMD, PINF, VMSTAT, B and SH, and the point coordinates. -/
def ResultOffset (a : Nat) : Prop :=
  a = 0x10 ∨ a = 0x14 ∨ a = 0x24 ∨ (0x100 ≤ a ∧ a < 0x320) ∨ (0x400 ≤ a ∧ a < 0x600)

/-- Reserved offsets (R75). -/
def ReservedOffset (a : Nat) : Prop :=
  (0x28 ≤ a ∧ a < 0x100) ∨ (0x360 ≤ a ∧ a < 0x400) ∨ (0x600 ≤ a ∧ a < 0x1000) ∨ (0x2400 ≤ a ∧ a < 0x4000)

/-- The accesses that are bus errors (R73): misaligned, a byte of the control region, or a wrong width. -/
def BadAccess (a width : Nat) : Prop :=
  (width = 4 ∧ a % 4 ≠ 0) ∨ (width = 1 ∧ a < 0x100) ∨ (width ≠ 1 ∧ width ≠ 4)

/-! ## What a command's work reads and writes -/

/-- Two states agree on everything a running command reads and writes: all but IRQEN, the sticky flags and the DONE
bit of STATUS, the reset input and the model's own fields. -/
def SameWork (s t : State) : Prop :=
  s.b = t.b ∧ s.px = t.px ∧ s.py = t.py ∧ s.pinf = t.pinf ∧ s.sh = t.sh ∧ s.sw = t.sw ∧ s.mem = t.mem ∧
    s.txlen = t.txlen ∧ s.inidx = t.inidx ∧ s.spklen = t.spklen ∧ s.cmd = t.cmd ∧ s.errcmd = t.errcmd ∧
    s.vmstat = t.vmstat ∧ s.vm = t.vm ∧ s.nonce = t.nonce ∧ s.status.busy = t.status.busy ∧
    s.status.err = t.status.err ∧ s.status.res = t.status.res ∧ s.status.ecode = t.status.ecode

/-- Two transactions agree but for their script_sigs and their witness. -/
def SameOutline (t u : Tx) : Prop :=
  t.version = u.version ∧ t.outs = u.outs ∧ t.locktime = u.locktime ∧
    t.ins.map (fun x => (x.prevTx, x.prevIndex, x.sequence)) =
      u.ins.map (fun x => (x.prevTx, x.prevIndex, x.sequence))

/-! ## What a completed command left -/

/-- `t` is `s` with a command completed without a fault and RES = `r`, and nothing else changed (10_state.md R40). -/
def Finished (s t : State) (r : Bool) : Prop :=
  t = { s with vm := none, nonce := none, status := { s.status with busy := false, done := true, res := r } }

/-- `t` is `s` with a command completed without a fault and RES = `r`, B[rd] = `v` its one destination. -/
def WroteB (s t : State) (rd : Fin 16) (v : Nat) (r : Bool) : Prop :=
  Finished { s with b := t.b } t r ∧ readB t rd = v ∧ ∀ j, j ≠ rd → t.b[j] = s.b[j]

/-- As `WroteB`, for the two destinations of ESIGN (43_ecdsa.md R232). -/
def WroteTwoB (s t : State) (rd rc : Fin 16) (v w : Nat) : Prop :=
  Finished { s with b := t.b } t false ∧ readB t rd = v ∧ readB t rc = w ∧
    ∀ j, j ≠ rd → j ≠ rc → t.b[j] = s.b[j]

/-- `t` is `s` with a command completed without a fault and RES = `r`, P[pd] = `q` its one destination (R202): the
other point registers and the other bits of PINF stand. -/
def WroteP (s t : State) (pd : Fin 8) (q : Point) (r : Bool) : Prop :=
  Finished { s with px := t.px, py := t.py, pinf := t.pinf } t r ∧ readPoint t pd = q ∧
    (q = .infinity → t.px[pd] = 0 ∧ t.py[pd] = 0) ∧
    ∀ j, j ≠ pd → t.px[j] = s.px[j] ∧ t.py[j] = s.py[j] ∧ pinfBit t j = pinfBit s j

/-- `t` is `s` with the running command faulted with code `c`: nothing else changed (R334). -/
def Faulted (s t : State) (c : FaultCode) : Prop :=
  t = { s with
    vm := none, nonce := none, errcmd := s.cmd,
    status := { s.status with busy := false, done := true, err := true, res := false, ecode := faultByte c } }

/-- `t` is `s` with SCRIPT completed with the verdict of `reason`, nothing else changed (R287). -/
def ScriptEnded (s t : State) (reason : Reason) : Prop :=
  Finished { s with vmstat := reasonByte reason } t (decide (reason = .accept))

/-- `t` is `s` with the script evaluation gone on to its next command, nothing else changed (R280). -/
def ScriptWentOn (s t : State) (v : Vm) (stack : List Bytes) (chkfail : Bool) : Prop :=
  t = { s with vm := some { v with ip := v.ip + 1, stack := stack, chkfail := chkfail } }

/-! ## Shapes of script commands -/

/-- What a push command, OP_0 or OP_k pushes (44_script.md R269 to R271); `none` for every other instruction. -/
def pushedBytes : Instr → Option Bytes
  | .op0 => some []
  | .pushBytes1 data => some data
  | .pushBytes2 data => some data
  | .pushBytes3 data => some data
  | .pushBytes4 data => some data
  | .pushBytes5 data => some data
  | .pushBytes6 data => some data
  | .pushBytes7 data => some data
  | .pushBytes8 data => some data
  | .pushBytes9 data => some data
  | .pushBytes10 data => some data
  | .pushBytes11 data => some data
  | .pushBytes12 data => some data
  | .pushBytes13 data => some data
  | .pushBytes14 data => some data
  | .pushBytes15 data => some data
  | .pushBytes16 data => some data
  | .pushBytes17 data => some data
  | .pushBytes18 data => some data
  | .pushBytes19 data => some data
  | .pushBytes20 data => some data
  | .pushBytes21 data => some data
  | .pushBytes22 data => some data
  | .pushBytes23 data => some data
  | .pushBytes24 data => some data
  | .pushBytes25 data => some data
  | .pushBytes26 data => some data
  | .pushBytes27 data => some data
  | .pushBytes28 data => some data
  | .pushBytes29 data => some data
  | .pushBytes30 data => some data
  | .pushBytes31 data => some data
  | .pushBytes32 data => some data
  | .pushBytes33 data => some data
  | .pushBytes34 data => some data
  | .pushBytes35 data => some data
  | .pushBytes36 data => some data
  | .pushBytes37 data => some data
  | .pushBytes38 data => some data
  | .pushBytes39 data => some data
  | .pushBytes40 data => some data
  | .pushBytes41 data => some data
  | .pushBytes42 data => some data
  | .pushBytes43 data => some data
  | .pushBytes44 data => some data
  | .pushBytes45 data => some data
  | .pushBytes46 data => some data
  | .pushBytes47 data => some data
  | .pushBytes48 data => some data
  | .pushBytes49 data => some data
  | .pushBytes50 data => some data
  | .pushBytes51 data => some data
  | .pushBytes52 data => some data
  | .pushBytes53 data => some data
  | .pushBytes54 data => some data
  | .pushBytes55 data => some data
  | .pushBytes56 data => some data
  | .pushBytes57 data => some data
  | .pushBytes58 data => some data
  | .pushBytes59 data => some data
  | .pushBytes60 data => some data
  | .pushBytes61 data => some data
  | .pushBytes62 data => some data
  | .pushBytes63 data => some data
  | .pushBytes64 data => some data
  | .pushBytes65 data => some data
  | .pushBytes66 data => some data
  | .pushBytes67 data => some data
  | .pushBytes68 data => some data
  | .pushBytes69 data => some data
  | .pushBytes70 data => some data
  | .pushBytes71 data => some data
  | .pushBytes72 data => some data
  | .pushBytes73 data => some data
  | .pushBytes74 data => some data
  | .pushBytes75 data => some data
  | .opPushData1 data => some data
  | .opPushData2 data => some data
  | .opPushData4 data => some data
  | .op1 => some [1]
  | .op2 => some [2]
  | .op3 => some [3]
  | .op4 => some [4]
  | .op5 => some [5]
  | .op6 => some [6]
  | .op7 => some [7]
  | .op8 => some [8]
  | .op9 => some [9]
  | .op10 => some [10]
  | .op11 => some [11]
  | .op12 => some [12]
  | .op13 => some [13]
  | .op14 => some [14]
  | .op15 => some [15]
  | .op16 => some [16]
  | _ => none

/-- The opcodes outside the supported set (R276). -/
def isUnsupported : Instr → Bool
  | .unsupported4F => true
  | .unsupported50 => true
  | .unsupported61 => true
  | .unsupported62 => true
  | .unsupported63 => true
  | .unsupported64 => true
  | .unsupported65 => true
  | .unsupported66 => true
  | .unsupported67 => true
  | .unsupported68 => true
  | .unsupported69 => true
  | .unsupported6A => true
  | .unsupported6B => true
  | .unsupported6C => true
  | .unsupported6D => true
  | .unsupported6E => true
  | .unsupported6F => true
  | .unsupported70 => true
  | .unsupported71 => true
  | .unsupported72 => true
  | .unsupported73 => true
  | .unsupported74 => true
  | .unsupported75 => true
  | .unsupported77 => true
  | .unsupported78 => true
  | .unsupported79 => true
  | .unsupported7A => true
  | .unsupported7B => true
  | .unsupported7C => true
  | .unsupported7D => true
  | .unsupported7E => true
  | .unsupported7F => true
  | .unsupported80 => true
  | .unsupported81 => true
  | .unsupported82 => true
  | .unsupported83 => true
  | .unsupported84 => true
  | .unsupported85 => true
  | .unsupported86 => true
  | .unsupported87 => true
  | .unsupported89 => true
  | .unsupported8A => true
  | .unsupported8B => true
  | .unsupported8C => true
  | .unsupported8D => true
  | .unsupported8E => true
  | .unsupported8F => true
  | .unsupported90 => true
  | .unsupported91 => true
  | .unsupported92 => true
  | .unsupported93 => true
  | .unsupported94 => true
  | .unsupported95 => true
  | .unsupported96 => true
  | .unsupported97 => true
  | .unsupported98 => true
  | .unsupported99 => true
  | .unsupported9A => true
  | .unsupported9B => true
  | .unsupported9C => true
  | .unsupported9D => true
  | .unsupported9E => true
  | .unsupported9F => true
  | .unsupportedA0 => true
  | .unsupportedA1 => true
  | .unsupportedA2 => true
  | .unsupportedA3 => true
  | .unsupportedA4 => true
  | .unsupportedA5 => true
  | .unsupportedA6 => true
  | .unsupportedA7 => true
  | .unsupportedA8 => true
  | .unsupportedAA => true
  | .unsupportedAB => true
  | .unsupportedAD => true
  | .unsupportedAE => true
  | .unsupportedAF => true
  | .unsupportedB0 => true
  | .unsupportedB1 => true
  | .unsupportedB2 => true
  | .unsupportedB3 => true
  | .unsupportedB4 => true
  | .unsupportedB5 => true
  | .unsupportedB6 => true
  | .unsupportedB7 => true
  | .unsupportedB8 => true
  | .unsupportedB9 => true
  | .unsupportedBA => true
  | .unsupportedBB => true
  | .unsupportedBC => true
  | .unsupportedBD => true
  | .unsupportedBE => true
  | .unsupportedBF => true
  | .unsupportedC0 => true
  | .unsupportedC1 => true
  | .unsupportedC2 => true
  | .unsupportedC3 => true
  | .unsupportedC4 => true
  | .unsupportedC5 => true
  | .unsupportedC6 => true
  | .unsupportedC7 => true
  | .unsupportedC8 => true
  | .unsupportedC9 => true
  | .unsupportedCA => true
  | .unsupportedCB => true
  | .unsupportedCC => true
  | .unsupportedCD => true
  | .unsupportedCE => true
  | .unsupportedCF => true
  | .unsupportedD0 => true
  | .unsupportedD1 => true
  | .unsupportedD2 => true
  | .unsupportedD3 => true
  | .unsupportedD4 => true
  | .unsupportedD5 => true
  | .unsupportedD6 => true
  | .unsupportedD7 => true
  | .unsupportedD8 => true
  | .unsupportedD9 => true
  | .unsupportedDA => true
  | .unsupportedDB => true
  | .unsupportedDC => true
  | .unsupportedDD => true
  | .unsupportedDE => true
  | .unsupportedDF => true
  | .unsupportedE0 => true
  | .unsupportedE1 => true
  | .unsupportedE2 => true
  | .unsupportedE3 => true
  | .unsupportedE4 => true
  | .unsupportedE5 => true
  | .unsupportedE6 => true
  | .unsupportedE7 => true
  | .unsupportedE8 => true
  | .unsupportedE9 => true
  | .unsupportedEA => true
  | .unsupportedEB => true
  | .unsupportedEC => true
  | .unsupportedED => true
  | .unsupportedEE => true
  | .unsupportedEF => true
  | .unsupportedF0 => true
  | .unsupportedF1 => true
  | .unsupportedF2 => true
  | .unsupportedF3 => true
  | .unsupportedF4 => true
  | .unsupportedF5 => true
  | .unsupportedF6 => true
  | .unsupportedF7 => true
  | .unsupportedF8 => true
  | .unsupportedF9 => true
  | .unsupportedFA => true
  | .unsupportedFB => true
  | .unsupportedFC => true
  | .unsupportedFD => true
  | .unsupportedFE => true
  | .unsupportedFF => true
  | _ => false

end Sys2Proof.Machine
end

