-- ==== Sys2Proof/Certificates/Slice0/Obligations.lean ====
section
/-! DEFINITION. The statements for the provers, in the order of OBLIGATIONS.json: encoding, the step and the invariant, the
host's window, the commands by unit, and the script VM. A docstring names the rules of spec/ a statement formalises. -/

open Sys2Proof Sys2Proof.Machine

/-! ## Encoding -/

/-- Decode and encode agree on every command word (30_encoding.md R100 to R103): no field of a well-formed command is
dropped. -/
def Obligations.CommandEncodeThenDecode : Prop :=
  ∀ (i : Instr) (w : Word), i.wf = true → encode i = .command w → decodeCommand w = .ok i

/-- Every word that decodes is exactly one well-formed command, and encoding it gives the word back (R106). -/
def Obligations.LegalWordIsOneCommand : Prop :=
  ∀ (w : Word) (i : Instr), decodeCommand w = .ok i → i.wf = true ∧ encode i = .command w

/-- Illegal encodings (R104): the six conditions say exactly which words decode to no command; such a word is still
stored in CMD, and its execution faults with EILLEGAL, whatever the operands hold. -/
def Obligations.IllegalWordsFault : Prop :=
  (∀ w : Word, IllegalWord w ↔ ¬ ∃ i, decodeCommand w = .ok i) ∧
  (∀ (s : State) (w : Word), s.resetLine = false → s.status.busy = false →
    (hostEvent s (.write 0x0008 4 w)).cmd = w ∧ (hostEvent s (.write 0x0008 4 w)).status.busy = true) ∧
  (∀ s : State, s.status.busy = true → s.vm = none → Quiet s → IllegalWord s.cmd →
    ∃ t, step s = .next t ∧ Faulted s t .illegal)

/-- Decode and encode agree on every script command, whatever bytes follow it (R109, R110). -/
def Obligations.ScriptEncodeThenDecode : Prop :=
  ∀ (i : Instr) (bs rest : Bytes), i.wf = true → encode i = .script bs →
    decodeScript (bs ++ rest) = .ok (i, rest)

/-- SCRIPT_PARSE inverts the encoding of whole script bodies (44_script.md R261): a body parses to a list of commands
exactly when they are well-formed script commands and the body is their encodings one after the other. -/
def Obligations.ScriptBodyIsItsCommands : Prop :=
  ∀ (body : Bytes) (prog : List Instr),
    parseScript body = .ok prog ↔
      (∀ i ∈ prog, i.wf = true ∧ (scriptOf i).isSome = true) ∧
        body = prog.flatMap fun i => (scriptOf i).getD []

/-- Words written out from the encodings of R100, R101 and R109 decode to what they stand for: the examples of R164 to
R166 and R207, and one of each other unit and of each script form. -/
def Obligations.HandWrittenWordsDecode : Prop :=
  decodeCommand 0x00000000 = .ok .nop ∧ decodeCommand 0x00002501 = .ok (.mov 5 2) ∧
  decodeCommand 0x00003102 = .ok (.ldk 1 3) ∧ decodeCommand 0x00032111 = .ok (.fsub 1 2 3) ∧
  decodeCommand 0x00000323 = .ok (.pldg 3) ∧ decodeCommand 0x000F7122 = .ok (.pmul 1 7 15) ∧
  decodeCommand 0x00000031 = .ok .shacomp ∧ decodeCommand 0x00432140 = .ok (.esign 1 4 2 3) ∧
  decodeCommand 0x00000C50 = .ok (.sighash 12) ∧
  decodeScript [0x02, 0xAB, 0xCD, 0x76] = .ok (.pushBytes2 [0xAB, 0xCD], [0x76]) ∧
  decodeScript [0x4D, 0x01, 0x00, 0x07] = .ok (.opPushData2 [0x07], []) ∧
  decodeScript [0x87] = .ok (.unsupported87, [])

/-! ## The step -/

/-- A step runs what was fetched: with no host event in the way, the command in CMD (10_state.md R42, R54), then, while a
SCRIPT is evaluated, the next command of its program, or the verdict at its end; while IDLE with no event left the state
stands. A host event that may land now is the step instead. The model's choices, not the spec's: one step per script
command and one for the verdict (log entry 5), the whileBusy flag that says where an event lands (log entry 4), and the
step of an IDLE block with no event (log entry 14). -/
def Obligations.StepRunsFetchedInstruction : Prop :=
  (∀ (s : State) (i : Instr), s.status.busy = true → Quiet s → s.vm = none → decodeCommand s.cmd = .ok i →
    step s = exec i s) ∧
  (∀ (s : State) (v : Vm) (i : Instr), s.status.busy = true → Quiet s → s.vm = some v →
    v.prog[v.ip]? = some i → step s = exec i s) ∧
  (∀ (s : State) (v : Vm), s.status.busy = true → Quiet s → s.vm = some v → v.prog[v.ip]? = none →
    ∃ t, step s = .next t ∧ ScriptEnded s t (verdict v)) ∧
  (∀ s : State, s.status.busy = false → s.bus = [] → step s = .next s) ∧
  (∀ (s : State) (e : HostEvent) (rest : List HostEvent), s.bus = e :: rest →
    s.status.busy = false ∨ e.whileBusy = true →
    step s = .next (hostEvent { s with bus := rest } e.op))

/-- An instruction placed by `withFetchWord` is the one the next step runs (log entries 10 and 18). -/
def Obligations.PlacedWordRuns : Prop :=
  ∀ (s : State) (nbits w : Nat) (i : Instr), decodeTableWord nbits w = some i →
    step (s.withFetchWord nbits w) = exec i (s.withFetchWord nbits w)

/-- No step of the machine stops, from any state: every fault of the spec is a completion (60_exceptions.md R334). -/
def Obligations.StepNeverStops : Prop := ∀ s : State, Safe s

/-- The invariant is kept by every step, of the engine or of the host. -/
def Obligations.InvariantKeptByStep : Prop :=
  ∀ s t : State, Inv s → step s = .next t → Inv t

/-- The invariant holds right after reset. -/
def Obligations.InvariantAtReset : Prop := Inv State.reset

/-- The control state after reset (10_state.md R53, 70_reset_and_hazards.md R362), as the host reads it, and the engine
waiting in IDLE. The data registers and buffers, whose reset values are the model's choice (log entries 1 and 2), are left
out. -/
def Obligations.ResetState : Prop :=
  (hostEvent State.reset (.read 0x0000 4)).reads = [0x4B310007] ∧
  (∀ off ∈ ([0x0004, 0x0008, 0x000C, 0x0010, 0x0018, 0x001C, 0x0020, 0x0024] : List (BitVec 14)),
    (hostEvent State.reset (.read off 4)).reads = [0]) ∧
  irq State.reset = false ∧ State.reset.status.busy = false ∧ State.reset.vm = none ∧ State.reset.nonce = none ∧
  step State.reset = .next State.reset

/-! ## Completion and faults -/

/-- A step of a command ends in one of three ways: it is still running with nothing of STATUS or ERRCMD changed, or it
completed without a fault (10_state.md R40), with ERR and ECODE 0 (60_exceptions.md R332), or it completed with one
(R334). The first way is the model's choice: R17 and R40 make a command one atomic step, and the model gives SCRIPT
several (log entry 5) and ESIGN one for each candidate (log entry 6). -/
def Obligations.EngineCompletion : Prop :=
  ∀ (i : Instr) (s t : State), s.status.busy = true → BusyClean s → exec i s = .next t →
    (t.status = s.status ∧ t.errcmd = s.errcmd ∧ (t.vm ≠ none ∨ t.nonce ≠ none)) ∨
    (t.status = { s.status with busy := false, done := true, err := false, res := t.status.res, ecode := 0 } ∧
      t.errcmd = s.errcmd ∧ t.vm = none ∧ t.nonce = none) ∨
    (∃ c, Faulted s t c)

/-- Faults are precise (R334): a step that leaves ERR = 1 wrote no destination and changed nothing but STATUS and
ERRCMD; and its code is one that the command's row of R331 names, a table the spec derives from the commands' rules. -/
def Obligations.FaultsPrecise : Prop :=
  (∀ s t : State, s.status.busy = true → BusyClean s → Quiet s → step s = .next t → t.status.err = true →
    ∃ c, Faulted s t c) ∧
  (∀ (i : Instr) (s t : State), s.status.busy = true → BusyClean s → exec i s = .next t → t.status.err = true →
    ∃ c ∈ faultRow i, Faulted s t c)

/-! ## The host's window -/

/-- CMD (R42): a write while IDLE stores the whole word, sets BUSY, clears DONE, ERR, RES and ECODE, keeps the sticky
bits, and the engine starts the command; a write while BUSY only sets CMDOVR; a read returns the word. -/
def Obligations.AcceptCommand : Prop :=
  ∀ (s : State) (w : Word), s.resetLine = false → IdleEmpty s →
    (s.status.busy = false →
      hostEvent s (.write 0x0008 4 w) =
        { s with
          cmd := w,
          status := { s.status with busy := true, done := false, err := false, res := false, ecode := 0 } }) ∧
    (s.status.busy = false → Quiet s → ∀ i, decodeCommand w = .ok i →
      step (hostEvent s (.write 0x0008 4 w)) = exec i (hostEvent s (.write 0x0008 4 w))) ∧
    (s.status.busy = true →
      hostEvent s (.write 0x0008 4 w) = { s with status := { s.status with cmdovr := true } }) ∧
    hostEvent s (.read 0x0008 4) = { s with reads := s.cmd :: s.reads }

/-- STATUS (R43): the place of each field in the word read, reserved bits zero; a write clears DONE, CMDOVR, WBUSY and
BUSERR where its bit is 1 and does nothing else, BUSY or not; while BUSY, DONE is already 0. -/
def Obligations.StatusRegister : Prop :=
  ∀ (s : State) (w : Word), s.resetLine = false →
    (∃ v : Word, hostEvent s (.read 0x0004 4) = { s with reads := v :: s.reads } ∧
      v.getLsbD 0 = s.status.busy ∧ v.getLsbD 1 = s.status.done ∧ v.getLsbD 2 = s.status.err ∧
      v.getLsbD 3 = s.status.res ∧ v.extractLsb' 4 4 = 0 ∧ v.extractLsb' 8 8 = s.status.ecode ∧
      v.getLsbD 16 = s.status.cmdovr ∧ v.getLsbD 17 = s.status.wbusy ∧ v.getLsbD 18 = s.status.buserr ∧
      v.extractLsb' 19 13 = 0) ∧
    hostEvent s (.write 0x0004 4 w) =
      { s with
        status := { s.status with
          done := s.status.done && !w.getLsbD 1, cmdovr := s.status.cmdovr && !w.getLsbD 16,
          wbusy := s.status.wbusy && !w.getLsbD 17, buserr := s.status.buserr && !w.getLsbD 18 } } ∧
    (BusyClean s → s.status.busy = true → (hostEvent s (.write 0x0004 4 w)).status.done = s.status.done)

/-- IRQ is the level of DONEIE and DONE (R47), and it falls when the host clears DONE, by a W1C write or an accepted CMD
write, or clears DONEIE. -/
def Obligations.IrqLevel : Prop :=
  ∀ (s : State) (w : Word), s.resetLine = false →
    (irq s = true ↔ s.doneie = true ∧ s.status.done = true) ∧
    (w.getLsbD 1 = true → irq (hostEvent s (.write 0x0004 4 w)) = false) ∧
    (s.status.busy = false → irq (hostEvent s (.write 0x0008 4 w)) = false) ∧
    (w.getLsbD 0 = false → irq (hostEvent s (.write 0x000C 4 w)) = false)

/-- Bus errors (20_memory.md R73): a bad write changes nothing but BUSERR, a bad read returns 0 and sets BUSERR, the
engine and IRQ are untouched, and no other access sets BUSERR. -/
def Obligations.BusErrors : Prop :=
  ∀ (s : State) (off : BitVec 14) (width : Nat) (v : Word), s.resetLine = false →
    (BadAccess off.toNat width →
      hostEvent s (.write off width v) = { s with status := { s.status with buserr := true } } ∧
      hostEvent s (.read off width) =
        { s with reads := 0 :: s.reads, status := { s.status with buserr := true } } ∧
      irq (hostEvent s (.write off width v)) = irq s ∧ irq (hostEvent s (.read off width)) = irq s) ∧
    (¬ BadAccess off.toNat width →
      ((hostEvent s (.write off width v)).status.buserr = true → s.status.buserr = true) ∧
      (hostEvent s (.read off width)).status.buserr = s.status.buserr)

/-- Writes that are not accepted (10_state.md R49): engine-operand state while BUSY, which sets WBUSY alone, and ID,
ERRCMD and VMSTAT always, which sets no flag. -/
def Obligations.DroppedWrites : Prop :=
  ∀ (s : State) (off : BitVec 14) (width : Nat) (v : Word), s.resetLine = false →
    ¬ BadAccess off.toNat width →
    (s.status.busy = true → OperandOffset off.toNat →
      hostEvent s (.write off width v) = { s with status := { s.status with wbusy := true } }) ∧
    (off = 0x0000 ∨ off = 0x0010 ∨ off = 0x0024 → hostEvent s (.write off width v) = s)

/-- Reads (R51, R76): while IDLE, and of input state always, a read returns the current value and changes nothing; of
command-result state while BUSY it returns a free draw and changes nothing of the block (log entry 8). -/
def Obligations.ReadsHaveNoSideEffect : Prop :=
  ∀ (s : State) (off : BitVec 14) (width : Nat), s.resetLine = false → ¬ BadAccess off.toNat width →
    (s.status.busy = false ∨ ¬ ResultOffset off.toNat →
      hostEvent s (.read off width) = { s with reads := readValue s off.toNat width :: s.reads }) ∧
    (s.status.busy = true → ResultOffset off.toNat →
      ∃ v, hostEvent s (.read off width) = { s with reads := v :: s.reads, draws := s.draws + 1 })

/-- A write to the data registers or the buffers while IDLE (20_memory.md R71, R74): each byte of the access reads back
as its byte of the word, most significant first, every other byte of the window reads as before, and nothing but those
registers and buffers changes. That a 1-byte access carries its byte in bits 7:0 of the data word is the model's choice
(log entry 15): R71 gives no byte lane. -/
def Obligations.DataWriteReadsBack : Prop :=
  ∀ (s : State) (off : BitVec 14) (width : Nat) (v : Word), s.resetLine = false → s.status.busy = false →
    s.mem.wf → ¬ BadAccess off.toNat width → DataOffset off.toNat →
    ∃ t, hostEvent s (.write off width v) = t ∧
      t = { s with b := t.b, px := t.px, py := t.py, sh := t.sh, sw := t.sw, mem := t.mem } ∧
      (width = 1 → dataByte t off.toNat = v.setWidth 8) ∧
      (width = 4 → ∀ k < 4, dataByte t (off.toNat + k) = (v >>> (8 * (3 - k))).setWidth 8) ∧
      ∀ a, (a < off.toNat ∨ off.toNat + width ≤ a) → dataByte t a = dataByte s a

/-- The byte and word views of the registers and buffers (10_state.md R31 to R38, 20_memory.md R71): byte k of a
register's window is byte k of its big-endian encoding; a word read of B, PX or PY at +4j holds bits 255−32j : 224−32j, of
SH or SW the register's value, and of TXBUF or SPKBUF its four bytes, the first in bits 31:24. -/
def Obligations.RegisterByteViews : Prop :=
  ∀ s : State,
    (∀ (i : Fin 16) (k : Nat), k < 32 →
      dataByte s (0x100 + 0x20 * i.val + k) = (beBytes 32 s.b[i].toNat).getD k 0) ∧
    (∀ (i : Fin 8) (k : Nat), k < 32 →
      dataByte s (0x400 + 0x40 * i.val + k) = (beBytes 32 s.px[i].toNat).getD k 0 ∧
      dataByte s (0x420 + 0x40 * i.val + k) = (beBytes 32 s.py[i].toNat).getD k 0) ∧
    (∀ (i : Fin 8) (k : Nat), k < 4 →
      dataByte s (0x300 + 4 * i.val + k) = (beBytes 4 s.sh[i].toNat).getD k 0) ∧
    (∀ (i : Fin 16) (k : Nat), k < 4 →
      dataByte s (0x320 + 4 * i.val + k) = (beBytes 4 s.sw[i].toNat).getD k 0) ∧
    (∀ a, a < 4096 → dataByte s (0x1000 + a) = memRead s.mem (0x1000 + a)) ∧
    (∀ a, a < 1024 → dataByte s (0x2000 + a) = memRead s.mem (0x2000 + a)) ∧
    (∀ (i : Fin 16) (j : Nat), j < 8 →
      readValue s (0x100 + 0x20 * i.val + 4 * j) 4 = (s.b[i] >>> (224 - 32 * j)).setWidth 32) ∧
    (∀ (i : Fin 8) (j : Nat), j < 8 →
      readValue s (0x400 + 0x40 * i.val + 4 * j) 4 = (s.px[i] >>> (224 - 32 * j)).setWidth 32 ∧
      readValue s (0x420 + 0x40 * i.val + 4 * j) 4 = (s.py[i] >>> (224 - 32 * j)).setWidth 32) ∧
    (∀ i : Fin 8, readValue s (0x300 + 4 * i.val) 4 = s.sh[i]) ∧
    (∀ i : Fin 16, readValue s (0x320 + 4 * i.val) 4 = s.sw[i]) ∧
    (∀ j k : Nat, j < 1024 → k < 4 →
      (readValue s (0x1000 + 4 * j) 4 >>> (8 * (3 - k))).setWidth 8 = memRead s.mem (0x1000 + 4 * j + k)) ∧
    (∀ j k : Nat, j < 256 → k < 4 →
      (readValue s (0x2000 + 4 * j) 4 >>> (8 * (3 - k))).setWidth 8 = memRead s.mem (0x2000 + 4 * j + k))

/-- Reserved offsets (20_memory.md R75): a correct access reads 0, a write is ignored without a flag, and R73 still
applies there. -/
def Obligations.ReservedOffsets : Prop :=
  ∀ (s : State) (off : BitVec 14) (width : Nat) (v : Word), s.resetLine = false → ReservedOffset off.toNat →
    (¬ BadAccess off.toNat width →
      hostEvent s (.read off width) = { s with reads := 0 :: s.reads } ∧
      hostEvent s (.write off width v) = s) ∧
    (BadAccess off.toNat width → (hostEvent s (.write off width v)).status.buserr = true)

/-- The control registers (10_state.md R41, R45, R46, R48, R50): what a write stores, its reserved bits dropped, and what
a read returns. IRQEN is written and read alike whether or not the block is BUSY (R45), and ID is read alike; the others
are stated while IDLE. -/
def Obligations.ControlRegisters : Prop :=
  ∀ (s : State) (v : Word), s.resetLine = false →
    (hostEvent s (.write 0x000C 4 v) = { s with doneie := v.getLsbD 0 } ∧
      hostEvent s (.read 0x000C 4) = { s with reads := (if s.doneie then 1 else 0) :: s.reads } ∧
      hostEvent s (.read 0x0000 4) = { s with reads := 0x4B310007 :: s.reads }) ∧
    (s.status.busy = false →
      hostEvent s (.write 0x0014 4 v) = { s with pinf := v.setWidth 8 } ∧
      hostEvent s (.write 0x0018 4 v) = { s with txlen := v.setWidth 13 } ∧
      hostEvent s (.write 0x001C 4 v) = { s with inidx := v } ∧
      hostEvent s (.write 0x0020 4 v) = { s with spklen := v.setWidth 11 } ∧
      hostEvent s (.read 0x0010 4) = { s with reads := s.errcmd :: s.reads } ∧
      hostEvent s (.read 0x0014 4) = { s with reads := s.pinf.setWidth 32 :: s.reads } ∧
      hostEvent s (.read 0x0018 4) = { s with reads := s.txlen.setWidth 32 :: s.reads } ∧
      hostEvent s (.read 0x001C 4) = { s with reads := s.inidx :: s.reads } ∧
      hostEvent s (.read 0x0020 4) = { s with reads := s.spklen.setWidth 32 :: s.reads } ∧
      hostEvent s (.read 0x0024 4) = { s with reads := s.vmstat.setWidth 32 :: s.reads })

/-- The reset input (70_reset_and_hazards.md R360, R361): from any state, BUSY or not, the control state takes its reset
values with no completion and no IRQ, and while reset is asserted a write is ignored and a read returns 0. -/
def Obligations.ResetInput : Prop :=
  ∀ s : State, ∃ t, hostEvent s .assertReset = t ∧
    statusWord t.status = 0 ∧ t.cmd = 0 ∧ t.doneie = false ∧ t.errcmd = 0 ∧ t.txlen = 0 ∧ t.inidx = 0 ∧
    t.spklen = 0 ∧ t.vmstat = 0 ∧ t.vm = none ∧ t.nonce = none ∧ irq t = false ∧ t.resetLine = true ∧
    (∀ off width v, hostEvent t (.write off width v) = t) ∧
    (∀ off width, hostEvent t (.read off width) = { t with reads := 0 :: t.reads }) ∧
    hostEvent t .releaseReset = { t with resetLine := false }

/-- What R81 of 20_memory.md derives from R42 and R49, in the model's steps (10_state.md R52): what the host does while a
command runs, short of reset, changes nothing of its work, and two states that agree on the work agree on it after each
step of a command. -/
def Obligations.CommandsSeeOperandsOnly : Prop :=
  (∀ (s : State) (op : HostOp), s.status.busy = true → op ≠ .assertReset → SameWork s (hostEvent s op)) ∧
  (∀ (i : Instr) (s s' t : State), SameWork s s' → exec i s = .next t →
    ∃ t', exec i s' = .next t' ∧ SameWork t t')

/-! ## Frames -/

/-- What no command changes: the B and point registers its rule does not name as a destination, SH but for SHAINIT and
SHACOMP, SW, every byte of TXBUF and SPKBUF, TXLEN, INIDX, SPKLEN, CMD, IRQEN and the sticky flags; and VMSTAT but for
SCRIPT and the script commands it runs (10_state.md R36 to R38, R50, 41_field.md R160, 42_curve.md R200). -/
def Obligations.CommandFrame : Prop :=
  ∀ (i : Instr) (s t : State), exec i s = .next t →
    (∀ j, j ∉ destB i → t.b[j] = s.b[j]) ∧
    (∀ j, j ∉ destP i → t.px[j] = s.px[j] ∧ t.py[j] = s.py[j] ∧ pinfBit t j = pinfBit s j) ∧
    (writesSh i = false → t.sh = s.sh) ∧ t.sw = s.sw ∧ (∀ a, memRead t.mem a = memRead s.mem a) ∧
    t.txlen = s.txlen ∧ t.inidx = s.inidx ∧ t.spklen = s.spklen ∧ t.cmd = s.cmd ∧ t.doneie = s.doneie ∧
    t.resetLine = s.resetLine ∧ t.bus = s.bus ∧ t.reads = s.reads ∧ t.draws = s.draws ∧
    t.status.cmdovr = s.status.cmdovr ∧ t.status.wbusy = s.status.wbusy ∧ t.status.buserr = s.status.buserr ∧
    (t.vmstat ≠ s.vmstat → i = .script ∨ (scriptOf i).isSome = true)

/-! ## The field unit -/

/-- NOP, MOV and LDK (41_field.md R164 to R166), for every operand; a selector above 6 is illegal. -/
def Obligations.ControlAndMoves : Prop :=
  EncodesNone 0x00 .nop ∧ EncodesTwo 0x01 .mov ∧
  (∀ rd k rb rc : Fin 16, decodeCommand (commandWord 0x02 rd k rb rc) =
    if rb = 0 ∧ rc = 0 then (if k.val ≤ 6 then .ok (.ldk rd k) else .error .ldkSelector)
    else .error .sbzNonZero) ∧
  (∀ s : State, ∃ t, exec .nop s = .next t ∧ Finished s t false) ∧
  (∀ (s : State) (rd ra : Fin 16), ∃ t, exec (.mov rd ra) s = .next t ∧ WroteB s t rd (readB s ra) false) ∧
  (∀ (s : State) (rd k : Fin 16), ∃ t, exec (.ldk rd k) s = .next t ∧
    if k.val ≤ 6 then
      WroteB s t rd
        ([0, 1, 0xFFFFFFFFFFFFFFFFFFFFFFFFFFFFFFFFFFFFFFFFFFFFFFFFFFFFFFFEFFFFFC2F,
          0xFFFFFFFFFFFFFFFFFFFFFFFFFFFFFFFEBAAEDCE6AF48A03BBFD25E8CD0364141,
          0x79BE667EF9DCBBAC55A06295CE870B07029BFCDB2DCE28D959F2815B16F81798,
          0x483ADA7726A3C4655DA4FBFC0E1108A8FD17B448A68554199C47D08FFB10D4B8,
          0x7FFFFFFFFFFFFFFFFFFFFFFFFFFFFFFF5D576E7357A4501DDFE92F46681B20A0].getD k.val 0) false
    else Faulted s t .illegal)

/-- FADD, FSUB and FMUL (R167 to R169): the exact sum, difference or product reduced mod p, for operands below p; an
operand that is not raises ERANGE. -/
def Obligations.FieldRingCommands : Prop :=
  EncodesThree 0x10 .fadd ∧ EncodesThree 0x11 .fsub ∧ EncodesThree 0x12 .fmul ∧
  ∀ (s : State) (rd ra rb : Fin 16),
    (readB s ra < primeP → readB s rb < primeP →
      (∃ t, exec (.fadd rd ra rb) s = .next t ∧ WroteB s t rd ((readB s ra + readB s rb) % primeP) false) ∧
      (∃ t v, exec (.fsub rd ra rb) s = .next t ∧ WroteB s t rd v false ∧
        (v : Int) = ((readB s ra : Int) - readB s rb) % primeP) ∧
      (∃ t, exec (.fmul rd ra rb) s = .next t ∧ WroteB s t rd (readB s ra * readB s rb % primeP) false)) ∧
    (primeP ≤ readB s ra ∨ primeP ≤ readB s rb →
      ∀ i ∈ [Instr.fadd rd ra rb, .fsub rd ra rb, .fmul rd ra rb], ∃ t, exec i s = .next t ∧ Faulted s t .range)

/-- NADD, NSUB and NMUL (R175 to R177): the same mod n. -/
def Obligations.ScalarRingCommands : Prop :=
  EncodesThree 0x18 .nadd ∧ EncodesThree 0x19 .nsub ∧ EncodesThree 0x1A .nmul ∧
  ∀ (s : State) (rd ra rb : Fin 16),
    (readB s ra < orderN → readB s rb < orderN →
      (∃ t, exec (.nadd rd ra rb) s = .next t ∧ WroteB s t rd ((readB s ra + readB s rb) % orderN) false) ∧
      (∃ t v, exec (.nsub rd ra rb) s = .next t ∧ WroteB s t rd v false ∧
        (v : Int) = ((readB s ra : Int) - readB s rb) % orderN) ∧
      (∃ t, exec (.nmul rd ra rb) s = .next t ∧ WroteB s t rd (readB s ra * readB s rb % orderN) false)) ∧
    (orderN ≤ readB s ra ∨ orderN ≤ readB s rb →
      ∀ i ∈ [Instr.nadd rd ra rb, .nsub rd ra rb, .nmul rd ra rb], ∃ t, exec i s = .next t ∧ Faulted s t .range)

/-- FPOW and NPOW (R171, R179): square-and-multiply gives a^e mod m for every 256-bit exponent, with 0^0 = 1; only the
base is range-checked. -/
def Obligations.PowerCommands : Prop :=
  EncodesThree 0x14 .fpow ∧ EncodesThree 0x1C .npow ∧
  ∀ (s : State) (rd ra rb : Fin 16),
    (∃ t, exec (.fpow rd ra rb) s = .next t ∧
      if readB s ra < primeP then WroteB s t rd (readB s ra ^ readB s rb % primeP) false
      else Faulted s t .range) ∧
    (∃ t, exec (.npow rd ra rb) s = .next t ∧
      if readB s ra < orderN then WroteB s t rd (readB s ra ^ readB s rb % orderN) false
      else Faulted s t .range)

/-- FINV and NINV (R170, R178): a^(m−2) mod m; ERANGE before EINVZ (60_exceptions.md R332). -/
def Obligations.InverseCommands : Prop :=
  EncodesTwo 0x13 .finv ∧ EncodesTwo 0x1B .ninv ∧
  ∀ (s : State) (rd ra : Fin 16),
    (∃ t, exec (.finv rd ra) s = .next t ∧
      if primeP ≤ readB s ra then Faulted s t .range
      else if readB s ra = 0 then Faulted s t .invz
      else WroteB s t rd (readB s ra ^ (primeP - 2) % primeP) false) ∧
    (∃ t, exec (.ninv rd ra) s = .next t ∧
      if orderN ≤ readB s ra then Faulted s t .range
      else if readB s ra = 0 then Faulted s t .invz
      else WroteB s t rd (readB s ra ^ (orderN - 2) % orderN) false)

/-- FSQRT (R172): the candidate a^((p+1)/4) mod p is written whether or not it is a root, and RES says whether it is. -/
def Obligations.SquareRoot : Prop :=
  EncodesTwo 0x15 .fsqrt ∧
  ∀ (s : State) (rd ra : Fin 16), ∃ t, exec (.fsqrt rd ra) s = .next t ∧
    if readB s ra < primeP then
      ∃ r, r = readB s ra ^ ((primeP + 1) / 4) % primeP ∧
        WroteB s t rd r (decide (r * r % primeP = readB s ra))
    else Faulted s t .range

/-- FEQ, NEQ, FRED and NRED (R173, R174, R180, R181): equality of range-checked operands in RES, and the reduction of any
256-bit value. -/
def Obligations.CompareAndReduce : Prop :=
  EncodesSources 0x16 .feq ∧ EncodesSources 0x1E .neq ∧ EncodesTwo 0x17 .fred ∧ EncodesTwo 0x1F .nred ∧
  ∀ (s : State) (rd ra rb : Fin 16),
    (∃ t, exec (.feq ra rb) s = .next t ∧
      if readB s ra < primeP ∧ readB s rb < primeP then Finished s t (decide (readB s ra = readB s rb))
      else Faulted s t .range) ∧
    (∃ t, exec (.neq ra rb) s = .next t ∧
      if readB s ra < orderN ∧ readB s rb < orderN then Finished s t (decide (readB s ra = readB s rb))
      else Faulted s t .range) ∧
    (∃ t, exec (.fred rd ra) s = .next t ∧ WroteB s t rd (readB s ra % primeP) false) ∧
    (∃ t, exec (.nred rd ra) s = .next t ∧ WroteB s t rd (readB s ra % orderN) false)

/-- Closure (R182): a command mod m that did not fault leaves a value below m in its destination. -/
def Obligations.ResultsAreReduced : Prop :=
  ∀ (s t : State) (rd ra rb : Fin 16), s.status.err = false → t.status.err = false →
    (∀ i ∈ [Instr.fadd rd ra rb, .fsub rd ra rb, .fmul rd ra rb, .finv rd ra, .fpow rd ra rb, .fsqrt rd ra,
        .fred rd ra], exec i s = .next t → readB t rd < primeP) ∧
    (∀ i ∈ [Instr.nadd rd ra rb, .nsub rd ra rb, .nmul rd ra rb, .ninv rd ra, .npow rd ra rb, .nred rd ra],
      exec i s = .next t → readB t rd < orderN)

/-! ## The curve unit -/

/-- PADD and PDBL (42_curve.md R204, R205): the group law on validated points, written by R202; an invalid operand raises
ENOTCURVE. -/
def Obligations.PointAddition : Prop :=
  ∀ (s : State) (pd pa pb : Fin 8),
    (∃ t, exec (.padd pd pa pb) s = .next t ∧
      if pointValid (readPoint s pa) = true ∧ pointValid (readPoint s pb) = true then
        WroteP s t pd (pointAdd (readPoint s pa) (readPoint s pb)) false
      else Faulted s t .notCurve) ∧
    (∃ t, exec (.pdbl pd pa) s = .next t ∧
      if pointValid (readPoint s pa) = true then
        WroteP s t pd (pointAdd (readPoint s pa) (readPoint s pa)) false
      else Faulted s t .notCurve)

/-- The group law ADD (R203), its cases in order, with exact integer formulas mod p. R203 says only the inverse (R11);
that it is d^(p−2) mod p, the power R170 computes, and what the formulas give on pairs that are no valid points, are the
model's, by inference (log entry 16). -/
def Obligations.GroupLawFormulas : Prop :=
  (∀ q, pointAdd .infinity q = q ∧ pointAdd q .infinity = q) ∧
  ∀ x1 y1 x2 y2 : Nat,
    (x1 = x2 ∧ (y1 + y2) % primeP = 0 → pointAdd (.affine x1 y1) (.affine x2 y2) = .infinity) ∧
    (¬ (x1 = x2 ∧ (y1 + y2) % primeP = 0) →
      ∃ sl x3 y3 : Nat, pointAdd (.affine x1 y1) (.affine x2 y2) = .affine x3 y3 ∧
        (x1 = x2 ∧ y1 = y2 → sl = 3 * x1 ^ 2 * (2 * y1) ^ (primeP - 2) % primeP) ∧
        (¬ (x1 = x2 ∧ y1 = y2) →
          (sl : Int) = ((y2 : Int) - y1) * ((x2 : Int) - x1) ^ (primeP - 2) % primeP) ∧
        (x3 : Int) = ((sl : Int) ^ 2 - x1 - x2) % primeP ∧
        (y3 : Int) = ((sl : Int) * (x1 - x3) - y1) % primeP)

/-- PMUL (R206): double-and-add over bits 255 to 0 of any 256-bit scalar on a validated point; 0·Q = O, 1·Q = Q and
k·O = O. -/
def Obligations.PointMultiplication : Prop :=
  (∀ (s : State) (pd pa : Fin 8) (rb : Fin 16), ∃ t, exec (.pmul pd pa rb) s = .next t ∧
    if pointValid (readPoint s pa) = true then WroteP s t pd (refPointMul (readB s rb) (readPoint s pa)) false
    else Faulted s t .notCurve) ∧
  ∀ q k, refPointMul 0 q = .infinity ∧ refPointMul 1 q = q ∧ refPointMul k .infinity = .infinity

/-- PLDG, PCHK and PMOV (R207 to R209): the generator, the validity of R201 in RES, and a verbatim copy, for every
operand. -/
def Obligations.PointMoves : Prop :=
  ∀ (s : State) (pd pa : Fin 8),
    (∃ t, exec (.pldg pd) s = .next t ∧ WroteP s t pd pointG false) ∧
    (∃ t r, exec (.pchk pa) s = .next t ∧ Finished s t r ∧
      (r = true ↔ pinfBit s pa = true ∨
        (s.px[pa].toNat < primeP ∧ s.py[pa].toNat < primeP ∧
          s.py[pa].toNat ^ 2 % primeP = (s.px[pa].toNat ^ 3 + 7) % primeP))) ∧
    (∃ t, exec (.pmov pd pa) s = .next t ∧ Finished { s with px := t.px, py := t.py, pinf := t.pinf } t false ∧
      t.px[pd] = s.px[pa] ∧ t.py[pd] = s.py[pa] ∧ pinfBit t pd = pinfBit s pa ∧
      ∀ j, j ≠ pd → t.px[j] = s.px[j] ∧ t.py[j] = s.py[j] ∧ pinfBit t j = pinfBit s j)

/-! ## The SHA-256 engine -/

/-- SHAINIT and SHACOMP (40_sha256.md R132, R133): the initial hash value, and the compression of SW into SH with the
schedule and the rounds taken by index; SW stands. -/
def Obligations.ShaCommands : Prop :=
  EncodesNone 0x30 .shainit ∧ EncodesNone 0x31 .shacomp ∧
  ∀ s : State,
    (∃ t, exec .shainit s = .next t ∧
      Finished { s with sh :=
        #v[0x6a09e667, 0xbb67ae85, 0x3c6ef372, 0xa54ff53a, 0x510e527f, 0x9b05688c, 0x1f83d9ab, 0x5be0cd19] }
        t false) ∧
    (∃ t, exec .shacomp s = .next t ∧ Finished { s with sh := refCompress s.sh s.sw.toList } t false)

/-! ## The ECDSA unit -/

/-- ESIGN, one candidate (43_ecdsa.md R231, R232): EILLEGAL for RD = RC, EKEY for a key outside [1, n−1], else, for the
candidate k the stream is at, r and s written when k gives a signature, and the stream advanced when it gives none (log
entry 6). -/
def Obligations.EsignTurn : Prop :=
  ∀ (s : State) (rd rc ra rb : Fin 16), ∃ t, exec (.esign rd rc ra rb) s = .next t ∧
    if rd = rc then Faulted s t .illegal
    else if readB s ra = 0 ∨ orderN ≤ readB s ra then Faulted s t .key
    else
      ∃ st, st = s.nonce.getD (nonceStart (readB s ra) (readB s rb)) ∧
        match signWith (readB s ra) (readB s rb) (intBe (nonceValue st)) with
        | some rs => WroteTwoB s t rd rc rs.1 rs.2
        | none => t = { s with nonce := some (nonceReject st) }

/-- ESIGN signs with the first candidate of the RFC 6979 stream that gives a signature (R231, R232). That the candidates
before it cost a step each, and the step after them completes the command, is the model's choice (log entry 6): R17 and
R40 make ESIGN one atomic step. -/
def Obligations.EsignRun : Prop :=
  ∀ (s : State) (rd rc ra rb : Fin 16) (j r v : Nat),
    s.status.busy = true → s.bus = [] → s.vm = none → s.nonce = none →
    decodeCommand s.cmd = .ok (.esign rd rc ra rb) → 1 ≤ readB s ra → readB s ra < orderN →
    (∀ i < j, signWith (readB s ra) (readB s rb) (candidate (readB s ra) (readB s rb) i) = none) →
    signWith (readB s ra) (readB s rb) (candidate (readB s ra) (readB s rb) j) = some (r, v) →
    ∃ t, run (j + 1) s = .next t ∧ WroteTwoB s t rd rc r v

/-- Every signature is in range and low-S (R242): 1 ≤ r < n and 1 ≤ s ≤ HALF_N, in the function and in the registers a
completed ESIGN leaves. -/
def Obligations.SignaturesAreLowS : Prop :=
  (∀ e z k r v : Nat, signWith e z k = some (r, v) →
    1 ≤ r ∧ r < orderN ∧ 1 ≤ v ∧ v ≤ orderN / 2) ∧
  (∀ (s t : State) (rd rc ra rb : Fin 16), s.status.busy = true → BusyClean s →
    exec (.esign rd rc ra rb) s = .next t → t.status.busy = false → t.status.err = false →
    1 ≤ readB t rd ∧ readB t rd < orderN ∧ 1 ≤ readB t rc ∧ readB t rc ≤ orderN / 2)

/-- A signature is a function of the key and z mod n (R242, determinism): both the candidate stream and s. -/
def Obligations.SignDependsOnZModN : Prop :=
  ∀ e z z' : Nat, z % orderN = z' % orderN →
    (∀ j, candidate e z j = candidate e z' j) ∧ (∀ k, signWith e z k = signWith e z' k)

/-- EVERIFY (R233, R234): ENOTCURVE before EKEY, else RES is 1 exactly when r and s are in [1, n−1] and
u1·G + u2·P is a point whose x mod n is r; high S is accepted. R234 says only the inverse of s; that it is s^(n−2) mod n is
the model's, by inference (log entry 16). -/
def Obligations.EverifyCommand : Prop :=
  ∀ (s : State) (pd : Fin 8) (ra rb rc : Fin 16), ∃ t, exec (.everify pd ra rb rc) s = .next t ∧
    if ¬ pointValid (readPoint s pd) = true then Faulted s t .notCurve
    else if pinfBit s pd = true then Faulted s t .key
    else
      ∃ res w, Finished s t res ∧ w = readB s rc ^ (orderN - 2) % orderN ∧
        (res = true ↔ 1 ≤ readB s rb ∧ readB s rb < orderN ∧ 1 ≤ readB s rc ∧ readB s rc < orderN ∧
          ∃ x y, pointAdd (refPointMul (readB s ra * w % orderN) pointG)
              (refPointMul (readB s rb * w % orderN) (readPoint s pd)) = .affine x y ∧
            x % orderN = readB s rb)

/-- DER_DECODE is strict (R241): it accepts exactly the canonical encodings of two integers of at most 33 bytes, and
gives the integers back. -/
def Obligations.DerDecodesExactlyCanonical : Prop :=
  ∀ (d : Bytes) (r s : Nat), derDecode d = some (r, s) ↔ r < 2 ^ 263 ∧ s < 2 ^ 263 ∧ d = derEncode r s

/-- SEC_DECODE (R240): what it gives satisfies the curve equation, has the X of the encoding, and, for the compressed
form, the parity of the prefix byte; and it gives every uncompressed point back. -/
def Obligations.SecDecodesPoints : Prop :=
  (∀ (b : Bytes) (q : Point), secDecode b = some q →
    ∃ x y, q = .affine x y ∧ x < primeP ∧ y ^ 2 % primeP = (x ^ 3 + 7) % primeP ∧
      x = intBe ((b.drop 1).take 32) ∧
      ((b.length = 65 ∧ b.getD 0 0 = 0x04 ∧ y = intBe (b.drop 33) ∧ y < primeP) ∨
        (b.length = 33 ∧ (b.getD 0 0 = 0x02 ∨ b.getD 0 0 = 0x03) ∧ y % 2 = (b.getD 0 0).toNat % 2))) ∧
  (∀ x y : Nat, pointValid (.affine x y) = true →
    secDecode (0x04 :: (beBytes 32 x ++ beBytes 32 y)) = some (.affine x y))

/-! ## The transaction unit -/

/-- Varints (45_tx_sighash.md R300, R301): reading the minimal encoding gives the value back, and only minimal encodings
are read. -/
def Obligations.VarintRoundTrip : Prop :=
  (∀ (v : Nat) (rest : Bytes), v < 2 ^ 64 → readVarint (varint v ++ rest) = some (v, rest)) ∧
  (∀ (bs rest : Bytes) (v : Nat), readVarint bs = some (v, rest) → v < 2 ^ 64 ∧ bs = varint v ++ rest)

/-- Serialization round trip (R309): for every content that TXPARSE accepts, FULL_SER of what it parsed is the content;
without SegWit so is LEGACY_SER with each input's own script. -/
def Obligations.SerializationRoundTrip : Prop :=
  ∀ (t : Bytes) (tx : Tx), parseTx t = some tx →
    fullSer tx = t ∧ (tx.segwit = false → legacySer tx (ownScript tx) = t)

/-- SIGHASH (R308): for legal lengths, a well-formed transaction and an input it has, B[rd] is the big-endian integer of
HASH256 of the legacy serialization with every script_sig empty but input INIDX's, which is SPKBUF's, and type 1
appended (R307). -/
def Obligations.SighashCommand : Prop :=
  ∀ (s : State) (rd : Fin 16) (tx : Tx), s.txlen.toNat ≤ 4096 → s.spklen.toNat ≤ 1024 →
    parseTx (txBytes s) = some tx → s.inidx.toNat < tx.ins.length →
    ∃ t, exec (.sighash rd) s = .next t ∧
      WroteB s t rd
        (intBe (hash256
          (legacySer tx (fun j => if j = s.inidx.toNat then spkBytes s else []) ++ [0x01, 0x00, 0x00, 0x00]))) false

/-- The digest sees no script_sig and no witness (R306, R307): transactions that differ in nothing else have the same
SIGHASH_Z. -/
def Obligations.SighashIgnoresScriptsAndWitness : Prop :=
  ∀ (tx tx' : Tx) (i : Nat) (script : Bytes), SameOutline tx tx' →
    sighashZ tx i script = sighashZ tx' i script

/-- The faults of SIGHASH and SCRIPT in the order of 60_exceptions.md R332: ELEN for TXLEN, ELEN for SPKLEN, EPARSE,
EINDEX. -/
def Obligations.TransactionFaults : Prop :=
  ∀ (s : State) (rd : Fin 16), ∀ i ∈ [Instr.sighash rd, .script],
    (4096 < s.txlen.toNat ∨ 1024 < s.spklen.toNat → ∃ t, exec i s = .next t ∧ Faulted s t .len) ∧
    (s.txlen.toNat ≤ 4096 → s.spklen.toNat ≤ 1024 →
      (parseTx (txBytes s) = none → ∃ t, exec i s = .next t ∧ Faulted s t .parse) ∧
      (∀ tx, parseTx (txBytes s) = some tx → tx.ins.length ≤ s.inidx.toNat →
        ∃ t, exec i s = .next t ∧ Faulted s t .index))

/-! ## SCRIPT and the script VM -/

/-- SCRIPT's own step (44_script.md R262, R263, R287): both bodies are parsed, script_sig first; a truncated one completes
the command with 0x06 or 0x07, else the evaluation starts, with an empty stack, on the two lists of commands one after the
other, each the list of well-formed script commands whose encodings are its body (R261). That the commands themselves run
in later steps is the model's choice (log entry 5). -/
def Obligations.ScriptStarts : Prop :=
  ∀ (s : State) (tx : Tx) (x : TxIn), s.txlen.toNat ≤ 4096 → s.spklen.toNat ≤ 1024 →
    parseTx (txBytes s) = some tx → tx.ins[s.inidx.toNat]? = some x →
    ∃ t, exec .script s = .next t ∧
      match refParse x.scriptSig, refParse (spkBytes s) with
      | none, _ => ScriptEnded s t .sigParse
      | some _, none => ScriptEnded s t .pubkeyScriptParse
      | some _, some _ =>
        ∃ a b, CommandsOf x.scriptSig a ∧ CommandsOf (spkBytes s) b ∧
          t = { s with vm := some { prog := a ++ b, ip := 0, stack := [], chkfail := false, tx := tx } }

/-- SCRIPT refines EVAL (R280, R287): run with no host event in between, it completes with VMSTAT and RES the reason and
verdict of the spec's big-step evaluation, and nothing else changed. The bound, one step per byte of the two scripts and
two more, rests on the model's choice of steps (log entry 5). -/
def Obligations.ScriptRefinesEval : Prop :=
  ∀ (s : State) (tx : Tx) (x : TxIn), s.status.busy = true → s.bus = [] → s.vm = none →
    decodeCommand s.cmd = .ok .script → s.txlen.toNat ≤ 4096 → s.spklen.toNat ≤ 1024 →
    parseTx (txBytes s) = some tx → tx.ins[s.inidx.toNat]? = some x →
    ∃ k t, k ≤ x.scriptSig.length + s.spklen.toNat + 2 ∧ run k s = .next t ∧
      ScriptEnded s t (refEval x.scriptSig (spkBytes s) tx s.inidx.toNat)

/-- The pushes, OP_0 and OP_1 to OP_16 (R264, R269 to R271): what each pushes, by its bytes; ELEM_SIZE above 520 bytes,
STACK_OVERFLOW on a full stack, else the bytes are on top and the next command is due. -/
def Obligations.PushCommands : Prop :=
  (∀ (i : Instr) (x : Bytes), i.wf = true → pushedBytes i = some x →
    ∃ b rest, encode i = .script (b :: rest) ∧
      ((b = 0x00 ∧ rest = [] ∧ x = []) ∨
        (0x51 ≤ b.toNat ∧ b.toNat ≤ 0x60 ∧ rest = [] ∧ x = [b - 0x50]) ∨
        (0x01 ≤ b.toNat ∧ b.toNat ≤ 0x4B ∧ rest = x ∧ x.length = b.toNat) ∨
        (b = 0x4C ∧ rest = leBytes 1 x.length ++ x ∧ x.length < 2 ^ 8) ∨
        (b = 0x4D ∧ rest = leBytes 2 x.length ++ x ∧ x.length < 2 ^ 16) ∨
        (b = 0x4E ∧ rest = leBytes 4 x.length ++ x ∧ x.length < 2 ^ 32))) ∧
  (∀ (i : Instr) (x : Bytes) (s : State) (v : Vm), pushedBytes i = some x → s.vm = some v →
    ∃ t, exec i s = .next t ∧
      if 520 < x.length then ScriptEnded s t .elemSize
      else if v.stack.length = 1000 then ScriptEnded s t .stackOverflow
      else ScriptWentOn s t v (x :: v.stack) v.chkfail)

/-- Every opcode outside the supported set, by its byte, fails the evaluation with 0x05 when it is executed (R276). -/
def Obligations.UnsupportedOpcodes : Prop :=
  (∀ i : Instr, isUnsupported i = true ↔
    ∃ b : Byte, encode i = .script [b] ∧
      (b = 0x4F ∨ b = 0x50 ∨ (0x61 ≤ b.toNat ∧ b.toNat ≤ 0x75) ∨ (0x77 ≤ b.toNat ∧ b.toNat ≤ 0x87) ∨
        (0x89 ≤ b.toNat ∧ b.toNat ≤ 0xA8) ∨ b = 0xAA ∨ b = 0xAB ∨ 0xAD ≤ b.toNat)) ∧
  (∀ (i : Instr) (s : State) (v : Vm), isUnsupported i = true → s.vm = some v →
    ∃ t, exec i s = .next t ∧ ScriptEnded s t .badOpcode)

/-- OP_DUP, OP_HASH160 and OP_EQUALVERIFY (R272 to R274) on every stack that keeps the VM's limits. -/
def Obligations.StackOpcodes : Prop :=
  ∀ (s : State) (v : Vm), s.vm = some v → v.stack.length ≤ 1000 → (∀ x ∈ v.stack, x.length ≤ 520) →
    (∃ t, exec .opDup s = .next t ∧
      match v.stack with
      | [] => ScriptEnded s t .underflow
      | x :: rest =>
        if v.stack.length = 1000 then ScriptEnded s t .stackOverflow
        else ScriptWentOn s t v (x :: x :: rest) v.chkfail) ∧
    (∃ t, exec .opHash160 s = .next t ∧
      match v.stack with
      | [] => ScriptEnded s t .underflow
      | x :: rest => ScriptWentOn s t v (hash160 x :: rest) v.chkfail) ∧
    (∃ t, exec .opEqualVerify s = .next t ∧
      match v.stack with
      | a :: b :: rest => if a = b then ScriptWentOn s t v rest v.chkfail else ScriptEnded s t .equalVerify
      | _ => ScriptEnded s t .underflow)

/-- OP_CHECKSIG (R275): sighash type, public key and DER are checked in that order; a verified signature pushes 01, a
false one pushes 00, sets CHKFAIL and goes on; the digest is SIGHASH_Z of input INIDX against the whole of SPKBUF. -/
def Obligations.CheckSigOpcode : Prop :=
  ∀ (s : State) (v : Vm), s.vm = some v → v.stack.length ≤ 1000 →
    ∃ t, exec .opCheckSig s = .next t ∧
      match v.stack with
      | pub :: sig :: rest =>
        if sig.length = 0 ∨ sig.getD (sig.length - 1) 0 ≠ 0x01 then ScriptEnded s t .sighashType
        else
          match secDecode pub, derDecode (sig.take (sig.length - 1)) with
          | none, _ => ScriptEnded s t .badPubkey
          | some _, none => ScriptEnded s t .badDer
          | some q, some rs =>
            if verify q (sighashZ v.tx s.inidx.toNat (spkBytes s)) rs.1 rs.2 = true then
              ScriptWentOn s t v ([0x01] :: rest) v.chkfail
            else ScriptWentOn s t v ([0x00] :: rest) true
      | _ => ScriptEnded s t .underflow

/-- The verdict after the last command (R282, R283): an empty stack, a top with no byte but zero, a false OP_CHECKSIG, or
acceptance, in that order; negative zero is truthy. -/
def Obligations.ScriptVerdict : Prop :=
  ∀ (s : State) (v : Vm), s.status.busy = true → Quiet s → s.vm = some v → v.ip = v.prog.length →
    ∃ t, step s = .next t ∧
      match v.stack with
      | [] => ScriptEnded s t .emptyEnd
      | top :: _ =>
        (¬ (1 ≤ top.length ∧ ∃ b ∈ top, b ≠ 0x00) → ScriptEnded s t .falseTop) ∧
        ((1 ≤ top.length ∧ ∃ b ∈ top, b ≠ 0x00) → v.chkfail = true → ScriptEnded s t .checkSigFalse) ∧
        ((1 ≤ top.length ∧ ∃ b ∈ top, b ≠ 0x00) → v.chkfail = false → ScriptEnded s t .accept)

/-- SCRIPT completes (R287), for every state with legal lengths, a transaction that parses and an input it has, whatever
the scripts hold: `exec` answers a next state, from which the engine, with no host event in between, ends the command with
the reason and the verdict of EVAL and changes nothing else. That a script which parses takes further steps is the model's
choice (log entry 5). -/
def Obligations.ScriptCompletes : Prop :=
  ∀ (s : State) (tx : Tx) (x : TxIn), s.status.busy = true → s.bus = [] → s.txlen.toNat ≤ 4096 →
    s.spklen.toNat ≤ 1024 → parseTx (txBytes s) = some tx → tx.ins[s.inidx.toNat]? = some x →
    ∃ u, exec .script s = .next u ∧
      ∃ k t, k ≤ x.scriptSig.length + s.spklen.toNat + 1 ∧ run k u = .next t ∧
        ScriptEnded s t (refEval x.scriptSig (spkBytes s) tx s.inidx.toNat)
end

