-- ==== Sys2Proof/Laws/Bytes.lean ====
section
/-! SUPPORT. Byte strings and the integers they encode, and the fields of a command word built by the encoder. -/

namespace Sys2Proof.Machine

@[simp] theorem leBytes_length (k v : Nat) : (leBytes k v).length = k := by
  induction k generalizing v with
  | zero => rfl
  | succ k ih => simp [leBytes, ih]

@[simp] theorem beBytes_length (k v : Nat) : (beBytes k v).length = k := by simp [beBytes]

/-- RIPEMD160 returns 20 bytes, at a pinned input or not (00_scope.md R8). -/
@[simp] theorem ripemd160_length (x : Bytes) : (ripemd160 x).length = 20 := by
  unfold ripemd160
  split
  · rename_i d h
    obtain ⟨l, r, hl, -⟩ := List.lookup_eq_some_iff.mp h
    have hall : ∀ p ∈ ripemdPinned, p.2.length = 20 := by simp [ripemdPinned]
    exact hall (x, d) (by simp [hl])
  · simp

/-- HASH160 returns 20 bytes (40_sha256.md R136). -/
@[simp] theorem hash160_length (x : Bytes) : (hash160 x).length = 20 := ripemd160_length _

/-- Reading a little-endian encoding gives the value mod 2^(8k). -/
theorem intLe_leBytes (k v : Nat) : intLe (leBytes k v) = v % 256 ^ k := by
  induction k generalizing v with
  | zero => simp [leBytes, intLe, Nat.mod_one]
  | succ k ih =>
    rw [leBytes, intLe, ih, BitVec.toNat_ofNat, Nat.pow_succ' (n := k)]
    exact (Nat.mod_mul (x := v) (a := 256) (b := 256 ^ k)).symm

/-- A byte string's integer is below 256 to its length. -/
theorem intLe_lt (bs : Bytes) : intLe bs < 256 ^ bs.length := by
  induction bs with
  | nil => simp [intLe]
  | cons b bs ih =>
    simp only [intLe, List.length_cons, Nat.pow_succ]
    have := b.isLt
    omega

/-- Encoding the integer of a byte string gives the byte string. -/
theorem leBytes_intLe (bs : Bytes) : leBytes bs.length (intLe bs) = bs := by
  induction bs with
  | nil => rfl
  | cons b bs ih =>
    have hb := b.isLt
    simp only [List.length_cons, leBytes, intLe]
    rw [show (b.toNat + 256 * intLe bs) / 256 = intLe bs by omega, ih]
    congr 1
    apply BitVec.eq_of_toNat_eq
    simp only [BitVec.toNat_ofNat]
    omega

/-- The command word as a number: no field overflows another. -/
theorem commandWord_toNat (op : Nat) (hop : op < 256) (rd ra rb rc : Fin 16) :
    (commandWord op rd ra rb rc).toNat =
      op + rd.val * 2 ^ 8 + ra.val * 2 ^ 12 + rb.val * 2 ^ 16 + rc.val * 2 ^ 20 := by
  have := rd.isLt; have := ra.isLt; have := rb.isLt; have := rc.isLt
  simp only [commandWord, BitVec.toNat_ofNat]
  omega

/-- The fields the decoder reads are the fields the encoder wrote. -/
theorem decodeCommand_commandWord (op : Nat) (hop : op < 256) (rd ra rb rc : Fin 16) :
    decodeCommand (commandWord op rd ra rb rc) = decodeFields op rd ra rb rc := by
  have h := commandWord_toNat op hop rd ra rb rc
  have := rd.isLt; have := ra.isLt; have := rb.isLt; have := rc.isLt
  have h0 : commandRsv (commandWord op rd ra rb rc) = 0 := by simp only [commandRsv, h]; omega
  have h1 : commandOp (commandWord op rd ra rb rc) = op := by simp only [commandOp, h]; omega
  have h2 : commandField (commandWord op rd ra rb rc) 8 = rd := by
    apply Fin.ext; simp only [commandField, h]; omega
  have h3 : commandField (commandWord op rd ra rb rc) 12 = ra := by
    apply Fin.ext; simp only [commandField, h]; omega
  have h4 : commandField (commandWord op rd ra rb rc) 16 = rb := by
    apply Fin.ext; simp only [commandField, h]; omega
  have h5 : commandField (commandWord op rd ra rb rc) 20 = rc := by
    apply Fin.ext; simp only [commandField, h]; omega
  simp [decodeCommand, h0, h1, h2, h3, h4, h5]

end Sys2Proof.Machine
end

