-- ==== Sys2Proof/Laws/State.lean ====
section
/-! SUPPORT. The fields of a state after each update: one lemma a field and update, all true by rfl. -/

namespace Sys2Proof.Machine

/-! ## writeB -/

@[simp] theorem writeB_b (s : State) (i : Fin 16) (v : Nat) : (writeB s i v).b = s.b.set i (BitVec.ofNat 256 v) := rfl
@[simp] theorem writeB_px (s : State) (i : Fin 16) (v : Nat) : (writeB s i v).px = s.px := rfl
@[simp] theorem writeB_py (s : State) (i : Fin 16) (v : Nat) : (writeB s i v).py = s.py := rfl
@[simp] theorem writeB_pinf (s : State) (i : Fin 16) (v : Nat) : (writeB s i v).pinf = s.pinf := rfl
@[simp] theorem writeB_sh (s : State) (i : Fin 16) (v : Nat) : (writeB s i v).sh = s.sh := rfl
@[simp] theorem writeB_sw (s : State) (i : Fin 16) (v : Nat) : (writeB s i v).sw = s.sw := rfl
@[simp] theorem writeB_mem (s : State) (i : Fin 16) (v : Nat) : (writeB s i v).mem = s.mem := rfl
@[simp] theorem writeB_status (s : State) (i : Fin 16) (v : Nat) : (writeB s i v).status = s.status := rfl
@[simp] theorem writeB_cmd (s : State) (i : Fin 16) (v : Nat) : (writeB s i v).cmd = s.cmd := rfl
@[simp] theorem writeB_doneie (s : State) (i : Fin 16) (v : Nat) : (writeB s i v).doneie = s.doneie := rfl
@[simp] theorem writeB_errcmd (s : State) (i : Fin 16) (v : Nat) : (writeB s i v).errcmd = s.errcmd := rfl
@[simp] theorem writeB_txlen (s : State) (i : Fin 16) (v : Nat) : (writeB s i v).txlen = s.txlen := rfl
@[simp] theorem writeB_inidx (s : State) (i : Fin 16) (v : Nat) : (writeB s i v).inidx = s.inidx := rfl
@[simp] theorem writeB_spklen (s : State) (i : Fin 16) (v : Nat) : (writeB s i v).spklen = s.spklen := rfl
@[simp] theorem writeB_vmstat (s : State) (i : Fin 16) (v : Nat) : (writeB s i v).vmstat = s.vmstat := rfl
@[simp] theorem writeB_resetLine (s : State) (i : Fin 16) (v : Nat) : (writeB s i v).resetLine = s.resetLine := rfl
@[simp] theorem writeB_vm (s : State) (i : Fin 16) (v : Nat) : (writeB s i v).vm = s.vm := rfl
@[simp] theorem writeB_nonce (s : State) (i : Fin 16) (v : Nat) : (writeB s i v).nonce = s.nonce := rfl
@[simp] theorem writeB_bus (s : State) (i : Fin 16) (v : Nat) : (writeB s i v).bus = s.bus := rfl
@[simp] theorem writeB_reads (s : State) (i : Fin 16) (v : Nat) : (writeB s i v).reads = s.reads := rfl
@[simp] theorem writeB_draws (s : State) (i : Fin 16) (v : Nat) : (writeB s i v).draws = s.draws := rfl

/-! ## setPointRegs -/

@[simp] theorem setPointRegs_b (s : State) (i : Fin 8) (x y : Wide) (f : Bool) : (setPointRegs s i x y f).b = s.b := rfl
@[simp] theorem setPointRegs_px (s : State) (i : Fin 8) (x y : Wide) (f : Bool) : (setPointRegs s i x y f).px = s.px.set i x := rfl
@[simp] theorem setPointRegs_py (s : State) (i : Fin 8) (x y : Wide) (f : Bool) : (setPointRegs s i x y f).py = s.py.set i y := rfl
@[simp] theorem setPointRegs_pinf (s : State) (i : Fin 8) (x y : Wide) (f : Bool) : (setPointRegs s i x y f).pinf = setPinfBit s.pinf i f := rfl
@[simp] theorem setPointRegs_sh (s : State) (i : Fin 8) (x y : Wide) (f : Bool) : (setPointRegs s i x y f).sh = s.sh := rfl
@[simp] theorem setPointRegs_sw (s : State) (i : Fin 8) (x y : Wide) (f : Bool) : (setPointRegs s i x y f).sw = s.sw := rfl
@[simp] theorem setPointRegs_mem (s : State) (i : Fin 8) (x y : Wide) (f : Bool) : (setPointRegs s i x y f).mem = s.mem := rfl
@[simp] theorem setPointRegs_status (s : State) (i : Fin 8) (x y : Wide) (f : Bool) : (setPointRegs s i x y f).status = s.status := rfl
@[simp] theorem setPointRegs_cmd (s : State) (i : Fin 8) (x y : Wide) (f : Bool) : (setPointRegs s i x y f).cmd = s.cmd := rfl
@[simp] theorem setPointRegs_doneie (s : State) (i : Fin 8) (x y : Wide) (f : Bool) : (setPointRegs s i x y f).doneie = s.doneie := rfl
@[simp] theorem setPointRegs_errcmd (s : State) (i : Fin 8) (x y : Wide) (f : Bool) : (setPointRegs s i x y f).errcmd = s.errcmd := rfl
@[simp] theorem setPointRegs_txlen (s : State) (i : Fin 8) (x y : Wide) (f : Bool) : (setPointRegs s i x y f).txlen = s.txlen := rfl
@[simp] theorem setPointRegs_inidx (s : State) (i : Fin 8) (x y : Wide) (f : Bool) : (setPointRegs s i x y f).inidx = s.inidx := rfl
@[simp] theorem setPointRegs_spklen (s : State) (i : Fin 8) (x y : Wide) (f : Bool) : (setPointRegs s i x y f).spklen = s.spklen := rfl
@[simp] theorem setPointRegs_vmstat (s : State) (i : Fin 8) (x y : Wide) (f : Bool) : (setPointRegs s i x y f).vmstat = s.vmstat := rfl
@[simp] theorem setPointRegs_resetLine (s : State) (i : Fin 8) (x y : Wide) (f : Bool) : (setPointRegs s i x y f).resetLine = s.resetLine := rfl
@[simp] theorem setPointRegs_vm (s : State) (i : Fin 8) (x y : Wide) (f : Bool) : (setPointRegs s i x y f).vm = s.vm := rfl
@[simp] theorem setPointRegs_nonce (s : State) (i : Fin 8) (x y : Wide) (f : Bool) : (setPointRegs s i x y f).nonce = s.nonce := rfl
@[simp] theorem setPointRegs_bus (s : State) (i : Fin 8) (x y : Wide) (f : Bool) : (setPointRegs s i x y f).bus = s.bus := rfl
@[simp] theorem setPointRegs_reads (s : State) (i : Fin 8) (x y : Wide) (f : Bool) : (setPointRegs s i x y f).reads = s.reads := rfl
@[simp] theorem setPointRegs_draws (s : State) (i : Fin 8) (x y : Wide) (f : Bool) : (setPointRegs s i x y f).draws = s.draws := rfl

/-! ## writePoint -/

@[simp] theorem writePoint_b (s : State) (i : Fin 8) (q : Point) : (writePoint s i q).b = s.b := by cases q <;> rfl
@[simp] theorem writePoint_sh (s : State) (i : Fin 8) (q : Point) : (writePoint s i q).sh = s.sh := by cases q <;> rfl
@[simp] theorem writePoint_sw (s : State) (i : Fin 8) (q : Point) : (writePoint s i q).sw = s.sw := by cases q <;> rfl
@[simp] theorem writePoint_mem (s : State) (i : Fin 8) (q : Point) : (writePoint s i q).mem = s.mem := by cases q <;> rfl
@[simp] theorem writePoint_status (s : State) (i : Fin 8) (q : Point) : (writePoint s i q).status = s.status := by cases q <;> rfl
@[simp] theorem writePoint_cmd (s : State) (i : Fin 8) (q : Point) : (writePoint s i q).cmd = s.cmd := by cases q <;> rfl
@[simp] theorem writePoint_doneie (s : State) (i : Fin 8) (q : Point) : (writePoint s i q).doneie = s.doneie := by cases q <;> rfl
@[simp] theorem writePoint_errcmd (s : State) (i : Fin 8) (q : Point) : (writePoint s i q).errcmd = s.errcmd := by cases q <;> rfl
@[simp] theorem writePoint_txlen (s : State) (i : Fin 8) (q : Point) : (writePoint s i q).txlen = s.txlen := by cases q <;> rfl
@[simp] theorem writePoint_inidx (s : State) (i : Fin 8) (q : Point) : (writePoint s i q).inidx = s.inidx := by cases q <;> rfl
@[simp] theorem writePoint_spklen (s : State) (i : Fin 8) (q : Point) : (writePoint s i q).spklen = s.spklen := by cases q <;> rfl
@[simp] theorem writePoint_vmstat (s : State) (i : Fin 8) (q : Point) : (writePoint s i q).vmstat = s.vmstat := by cases q <;> rfl
@[simp] theorem writePoint_resetLine (s : State) (i : Fin 8) (q : Point) : (writePoint s i q).resetLine = s.resetLine := by cases q <;> rfl
@[simp] theorem writePoint_vm (s : State) (i : Fin 8) (q : Point) : (writePoint s i q).vm = s.vm := by cases q <;> rfl
@[simp] theorem writePoint_nonce (s : State) (i : Fin 8) (q : Point) : (writePoint s i q).nonce = s.nonce := by cases q <;> rfl
@[simp] theorem writePoint_bus (s : State) (i : Fin 8) (q : Point) : (writePoint s i q).bus = s.bus := by cases q <;> rfl
@[simp] theorem writePoint_reads (s : State) (i : Fin 8) (q : Point) : (writePoint s i q).reads = s.reads := by cases q <;> rfl
@[simp] theorem writePoint_draws (s : State) (i : Fin 8) (q : Point) : (writePoint s i q).draws = s.draws := by cases q <;> rfl

/-! ## complete -/

@[simp] theorem complete_b (s : State) (r : Bool) : (complete s r).b = s.b := rfl
@[simp] theorem complete_px (s : State) (r : Bool) : (complete s r).px = s.px := rfl
@[simp] theorem complete_py (s : State) (r : Bool) : (complete s r).py = s.py := rfl
@[simp] theorem complete_pinf (s : State) (r : Bool) : (complete s r).pinf = s.pinf := rfl
@[simp] theorem complete_sh (s : State) (r : Bool) : (complete s r).sh = s.sh := rfl
@[simp] theorem complete_sw (s : State) (r : Bool) : (complete s r).sw = s.sw := rfl
@[simp] theorem complete_mem (s : State) (r : Bool) : (complete s r).mem = s.mem := rfl
@[simp] theorem complete_status (s : State) (r : Bool) : (complete s r).status = { s.status with busy := false, done := true, res := r } := rfl
@[simp] theorem complete_cmd (s : State) (r : Bool) : (complete s r).cmd = s.cmd := rfl
@[simp] theorem complete_doneie (s : State) (r : Bool) : (complete s r).doneie = s.doneie := rfl
@[simp] theorem complete_errcmd (s : State) (r : Bool) : (complete s r).errcmd = s.errcmd := rfl
@[simp] theorem complete_txlen (s : State) (r : Bool) : (complete s r).txlen = s.txlen := rfl
@[simp] theorem complete_inidx (s : State) (r : Bool) : (complete s r).inidx = s.inidx := rfl
@[simp] theorem complete_spklen (s : State) (r : Bool) : (complete s r).spklen = s.spklen := rfl
@[simp] theorem complete_vmstat (s : State) (r : Bool) : (complete s r).vmstat = s.vmstat := rfl
@[simp] theorem complete_resetLine (s : State) (r : Bool) : (complete s r).resetLine = s.resetLine := rfl
@[simp] theorem complete_vm (s : State) (r : Bool) : (complete s r).vm = none := rfl
@[simp] theorem complete_nonce (s : State) (r : Bool) : (complete s r).nonce = none := rfl
@[simp] theorem complete_bus (s : State) (r : Bool) : (complete s r).bus = s.bus := rfl
@[simp] theorem complete_reads (s : State) (r : Bool) : (complete s r).reads = s.reads := rfl
@[simp] theorem complete_draws (s : State) (r : Bool) : (complete s r).draws = s.draws := rfl

/-! ## raiseFault -/

@[simp] theorem raiseFault_b (s : State) (c : FaultCode) : (raiseFault s c).b = s.b := rfl
@[simp] theorem raiseFault_px (s : State) (c : FaultCode) : (raiseFault s c).px = s.px := rfl
@[simp] theorem raiseFault_py (s : State) (c : FaultCode) : (raiseFault s c).py = s.py := rfl
@[simp] theorem raiseFault_pinf (s : State) (c : FaultCode) : (raiseFault s c).pinf = s.pinf := rfl
@[simp] theorem raiseFault_sh (s : State) (c : FaultCode) : (raiseFault s c).sh = s.sh := rfl
@[simp] theorem raiseFault_sw (s : State) (c : FaultCode) : (raiseFault s c).sw = s.sw := rfl
@[simp] theorem raiseFault_mem (s : State) (c : FaultCode) : (raiseFault s c).mem = s.mem := rfl
@[simp] theorem raiseFault_status (s : State) (c : FaultCode) : (raiseFault s c).status = { s.status with busy := false, done := true, err := true, res := false, ecode := faultByte c } := rfl
@[simp] theorem raiseFault_cmd (s : State) (c : FaultCode) : (raiseFault s c).cmd = s.cmd := rfl
@[simp] theorem raiseFault_doneie (s : State) (c : FaultCode) : (raiseFault s c).doneie = s.doneie := rfl
@[simp] theorem raiseFault_errcmd (s : State) (c : FaultCode) : (raiseFault s c).errcmd = s.cmd := rfl
@[simp] theorem raiseFault_txlen (s : State) (c : FaultCode) : (raiseFault s c).txlen = s.txlen := rfl
@[simp] theorem raiseFault_inidx (s : State) (c : FaultCode) : (raiseFault s c).inidx = s.inidx := rfl
@[simp] theorem raiseFault_spklen (s : State) (c : FaultCode) : (raiseFault s c).spklen = s.spklen := rfl
@[simp] theorem raiseFault_vmstat (s : State) (c : FaultCode) : (raiseFault s c).vmstat = s.vmstat := rfl
@[simp] theorem raiseFault_resetLine (s : State) (c : FaultCode) : (raiseFault s c).resetLine = s.resetLine := rfl
@[simp] theorem raiseFault_vm (s : State) (c : FaultCode) : (raiseFault s c).vm = none := rfl
@[simp] theorem raiseFault_nonce (s : State) (c : FaultCode) : (raiseFault s c).nonce = none := rfl
@[simp] theorem raiseFault_bus (s : State) (c : FaultCode) : (raiseFault s c).bus = s.bus := rfl
@[simp] theorem raiseFault_reads (s : State) (c : FaultCode) : (raiseFault s c).reads = s.reads := rfl
@[simp] theorem raiseFault_draws (s : State) (c : FaultCode) : (raiseFault s c).draws = s.draws := rfl

/-! ## acceptCommand -/

@[simp] theorem acceptCommand_b (s : State) (w : Word) : (acceptCommand s w).b = s.b := rfl
@[simp] theorem acceptCommand_px (s : State) (w : Word) : (acceptCommand s w).px = s.px := rfl
@[simp] theorem acceptCommand_py (s : State) (w : Word) : (acceptCommand s w).py = s.py := rfl
@[simp] theorem acceptCommand_pinf (s : State) (w : Word) : (acceptCommand s w).pinf = s.pinf := rfl
@[simp] theorem acceptCommand_sh (s : State) (w : Word) : (acceptCommand s w).sh = s.sh := rfl
@[simp] theorem acceptCommand_sw (s : State) (w : Word) : (acceptCommand s w).sw = s.sw := rfl
@[simp] theorem acceptCommand_mem (s : State) (w : Word) : (acceptCommand s w).mem = s.mem := rfl
@[simp] theorem acceptCommand_status (s : State) (w : Word) : (acceptCommand s w).status = { s.status with busy := true, done := false, err := false, res := false, ecode := 0 } := rfl
@[simp] theorem acceptCommand_cmd (s : State) (w : Word) : (acceptCommand s w).cmd = w := rfl
@[simp] theorem acceptCommand_doneie (s : State) (w : Word) : (acceptCommand s w).doneie = s.doneie := rfl
@[simp] theorem acceptCommand_errcmd (s : State) (w : Word) : (acceptCommand s w).errcmd = s.errcmd := rfl
@[simp] theorem acceptCommand_txlen (s : State) (w : Word) : (acceptCommand s w).txlen = s.txlen := rfl
@[simp] theorem acceptCommand_inidx (s : State) (w : Word) : (acceptCommand s w).inidx = s.inidx := rfl
@[simp] theorem acceptCommand_spklen (s : State) (w : Word) : (acceptCommand s w).spklen = s.spklen := rfl
@[simp] theorem acceptCommand_vmstat (s : State) (w : Word) : (acceptCommand s w).vmstat = s.vmstat := rfl
@[simp] theorem acceptCommand_resetLine (s : State) (w : Word) : (acceptCommand s w).resetLine = s.resetLine := rfl
@[simp] theorem acceptCommand_vm (s : State) (w : Word) : (acceptCommand s w).vm = none := rfl
@[simp] theorem acceptCommand_nonce (s : State) (w : Word) : (acceptCommand s w).nonce = none := rfl
@[simp] theorem acceptCommand_bus (s : State) (w : Word) : (acceptCommand s w).bus = s.bus := rfl
@[simp] theorem acceptCommand_reads (s : State) (w : Word) : (acceptCommand s w).reads = s.reads := rfl
@[simp] theorem acceptCommand_draws (s : State) (w : Word) : (acceptCommand s w).draws = s.draws := rfl

/-! ## acknowledge -/

@[simp] theorem acknowledge_b (s : State) : (acknowledge s).b = s.b := rfl
@[simp] theorem acknowledge_px (s : State) : (acknowledge s).px = s.px := rfl
@[simp] theorem acknowledge_py (s : State) : (acknowledge s).py = s.py := rfl
@[simp] theorem acknowledge_pinf (s : State) : (acknowledge s).pinf = s.pinf := rfl
@[simp] theorem acknowledge_sh (s : State) : (acknowledge s).sh = s.sh := rfl
@[simp] theorem acknowledge_sw (s : State) : (acknowledge s).sw = s.sw := rfl
@[simp] theorem acknowledge_mem (s : State) : (acknowledge s).mem = s.mem := rfl
@[simp] theorem acknowledge_status (s : State) : (acknowledge s).status = { s.status with done := false } := rfl
@[simp] theorem acknowledge_cmd (s : State) : (acknowledge s).cmd = s.cmd := rfl
@[simp] theorem acknowledge_doneie (s : State) : (acknowledge s).doneie = s.doneie := rfl
@[simp] theorem acknowledge_errcmd (s : State) : (acknowledge s).errcmd = s.errcmd := rfl
@[simp] theorem acknowledge_txlen (s : State) : (acknowledge s).txlen = s.txlen := rfl
@[simp] theorem acknowledge_inidx (s : State) : (acknowledge s).inidx = s.inidx := rfl
@[simp] theorem acknowledge_spklen (s : State) : (acknowledge s).spklen = s.spklen := rfl
@[simp] theorem acknowledge_vmstat (s : State) : (acknowledge s).vmstat = s.vmstat := rfl
@[simp] theorem acknowledge_resetLine (s : State) : (acknowledge s).resetLine = s.resetLine := rfl
@[simp] theorem acknowledge_vm (s : State) : (acknowledge s).vm = s.vm := rfl
@[simp] theorem acknowledge_nonce (s : State) : (acknowledge s).nonce = s.nonce := rfl
@[simp] theorem acknowledge_bus (s : State) : (acknowledge s).bus = s.bus := rfl
@[simp] theorem acknowledge_reads (s : State) : (acknowledge s).reads = s.reads := rfl
@[simp] theorem acknowledge_draws (s : State) : (acknowledge s).draws = s.draws := rfl

/-! ## finishScript -/

@[simp] theorem finishScript_b (s : State) (r : Reason) : (finishScript s r).b = s.b := rfl
@[simp] theorem finishScript_px (s : State) (r : Reason) : (finishScript s r).px = s.px := rfl
@[simp] theorem finishScript_py (s : State) (r : Reason) : (finishScript s r).py = s.py := rfl
@[simp] theorem finishScript_pinf (s : State) (r : Reason) : (finishScript s r).pinf = s.pinf := rfl
@[simp] theorem finishScript_sh (s : State) (r : Reason) : (finishScript s r).sh = s.sh := rfl
@[simp] theorem finishScript_sw (s : State) (r : Reason) : (finishScript s r).sw = s.sw := rfl
@[simp] theorem finishScript_mem (s : State) (r : Reason) : (finishScript s r).mem = s.mem := rfl
@[simp] theorem finishScript_status (s : State) (r : Reason) : (finishScript s r).status = { s.status with busy := false, done := true, res := (r == .accept) } := rfl
@[simp] theorem finishScript_cmd (s : State) (r : Reason) : (finishScript s r).cmd = s.cmd := rfl
@[simp] theorem finishScript_doneie (s : State) (r : Reason) : (finishScript s r).doneie = s.doneie := rfl
@[simp] theorem finishScript_errcmd (s : State) (r : Reason) : (finishScript s r).errcmd = s.errcmd := rfl
@[simp] theorem finishScript_txlen (s : State) (r : Reason) : (finishScript s r).txlen = s.txlen := rfl
@[simp] theorem finishScript_inidx (s : State) (r : Reason) : (finishScript s r).inidx = s.inidx := rfl
@[simp] theorem finishScript_spklen (s : State) (r : Reason) : (finishScript s r).spklen = s.spklen := rfl
@[simp] theorem finishScript_vmstat (s : State) (r : Reason) : (finishScript s r).vmstat = reasonByte r := rfl
@[simp] theorem finishScript_resetLine (s : State) (r : Reason) : (finishScript s r).resetLine = s.resetLine := rfl
@[simp] theorem finishScript_vm (s : State) (r : Reason) : (finishScript s r).vm = none := rfl
@[simp] theorem finishScript_nonce (s : State) (r : Reason) : (finishScript s r).nonce = none := rfl
@[simp] theorem finishScript_bus (s : State) (r : Reason) : (finishScript s r).bus = s.bus := rfl
@[simp] theorem finishScript_reads (s : State) (r : Reason) : (finishScript s r).reads = s.reads := rfl
@[simp] theorem finishScript_draws (s : State) (r : Reason) : (finishScript s r).draws = s.draws := rfl

/-! ## setCmdovr -/

@[simp] theorem setCmdovr_b (s : State) : (setCmdovr s).b = s.b := rfl
@[simp] theorem setCmdovr_px (s : State) : (setCmdovr s).px = s.px := rfl
@[simp] theorem setCmdovr_py (s : State) : (setCmdovr s).py = s.py := rfl
@[simp] theorem setCmdovr_pinf (s : State) : (setCmdovr s).pinf = s.pinf := rfl
@[simp] theorem setCmdovr_sh (s : State) : (setCmdovr s).sh = s.sh := rfl
@[simp] theorem setCmdovr_sw (s : State) : (setCmdovr s).sw = s.sw := rfl
@[simp] theorem setCmdovr_mem (s : State) : (setCmdovr s).mem = s.mem := rfl
@[simp] theorem setCmdovr_status (s : State) : (setCmdovr s).status = { s.status with cmdovr := true } := rfl
@[simp] theorem setCmdovr_cmd (s : State) : (setCmdovr s).cmd = s.cmd := rfl
@[simp] theorem setCmdovr_doneie (s : State) : (setCmdovr s).doneie = s.doneie := rfl
@[simp] theorem setCmdovr_errcmd (s : State) : (setCmdovr s).errcmd = s.errcmd := rfl
@[simp] theorem setCmdovr_txlen (s : State) : (setCmdovr s).txlen = s.txlen := rfl
@[simp] theorem setCmdovr_inidx (s : State) : (setCmdovr s).inidx = s.inidx := rfl
@[simp] theorem setCmdovr_spklen (s : State) : (setCmdovr s).spklen = s.spklen := rfl
@[simp] theorem setCmdovr_vmstat (s : State) : (setCmdovr s).vmstat = s.vmstat := rfl
@[simp] theorem setCmdovr_resetLine (s : State) : (setCmdovr s).resetLine = s.resetLine := rfl
@[simp] theorem setCmdovr_vm (s : State) : (setCmdovr s).vm = s.vm := rfl
@[simp] theorem setCmdovr_nonce (s : State) : (setCmdovr s).nonce = s.nonce := rfl
@[simp] theorem setCmdovr_bus (s : State) : (setCmdovr s).bus = s.bus := rfl
@[simp] theorem setCmdovr_reads (s : State) : (setCmdovr s).reads = s.reads := rfl
@[simp] theorem setCmdovr_draws (s : State) : (setCmdovr s).draws = s.draws := rfl

/-! ## setWbusy -/

@[simp] theorem setWbusy_b (s : State) : (setWbusy s).b = s.b := rfl
@[simp] theorem setWbusy_px (s : State) : (setWbusy s).px = s.px := rfl
@[simp] theorem setWbusy_py (s : State) : (setWbusy s).py = s.py := rfl
@[simp] theorem setWbusy_pinf (s : State) : (setWbusy s).pinf = s.pinf := rfl
@[simp] theorem setWbusy_sh (s : State) : (setWbusy s).sh = s.sh := rfl
@[simp] theorem setWbusy_sw (s : State) : (setWbusy s).sw = s.sw := rfl
@[simp] theorem setWbusy_mem (s : State) : (setWbusy s).mem = s.mem := rfl
@[simp] theorem setWbusy_status (s : State) : (setWbusy s).status = { s.status with wbusy := true } := rfl
@[simp] theorem setWbusy_cmd (s : State) : (setWbusy s).cmd = s.cmd := rfl
@[simp] theorem setWbusy_doneie (s : State) : (setWbusy s).doneie = s.doneie := rfl
@[simp] theorem setWbusy_errcmd (s : State) : (setWbusy s).errcmd = s.errcmd := rfl
@[simp] theorem setWbusy_txlen (s : State) : (setWbusy s).txlen = s.txlen := rfl
@[simp] theorem setWbusy_inidx (s : State) : (setWbusy s).inidx = s.inidx := rfl
@[simp] theorem setWbusy_spklen (s : State) : (setWbusy s).spklen = s.spklen := rfl
@[simp] theorem setWbusy_vmstat (s : State) : (setWbusy s).vmstat = s.vmstat := rfl
@[simp] theorem setWbusy_resetLine (s : State) : (setWbusy s).resetLine = s.resetLine := rfl
@[simp] theorem setWbusy_vm (s : State) : (setWbusy s).vm = s.vm := rfl
@[simp] theorem setWbusy_nonce (s : State) : (setWbusy s).nonce = s.nonce := rfl
@[simp] theorem setWbusy_bus (s : State) : (setWbusy s).bus = s.bus := rfl
@[simp] theorem setWbusy_reads (s : State) : (setWbusy s).reads = s.reads := rfl
@[simp] theorem setWbusy_draws (s : State) : (setWbusy s).draws = s.draws := rfl

/-! ## setBuserr -/

@[simp] theorem setBuserr_b (s : State) : (setBuserr s).b = s.b := rfl
@[simp] theorem setBuserr_px (s : State) : (setBuserr s).px = s.px := rfl
@[simp] theorem setBuserr_py (s : State) : (setBuserr s).py = s.py := rfl
@[simp] theorem setBuserr_pinf (s : State) : (setBuserr s).pinf = s.pinf := rfl
@[simp] theorem setBuserr_sh (s : State) : (setBuserr s).sh = s.sh := rfl
@[simp] theorem setBuserr_sw (s : State) : (setBuserr s).sw = s.sw := rfl
@[simp] theorem setBuserr_mem (s : State) : (setBuserr s).mem = s.mem := rfl
@[simp] theorem setBuserr_status (s : State) : (setBuserr s).status = { s.status with buserr := true } := rfl
@[simp] theorem setBuserr_cmd (s : State) : (setBuserr s).cmd = s.cmd := rfl
@[simp] theorem setBuserr_doneie (s : State) : (setBuserr s).doneie = s.doneie := rfl
@[simp] theorem setBuserr_errcmd (s : State) : (setBuserr s).errcmd = s.errcmd := rfl
@[simp] theorem setBuserr_txlen (s : State) : (setBuserr s).txlen = s.txlen := rfl
@[simp] theorem setBuserr_inidx (s : State) : (setBuserr s).inidx = s.inidx := rfl
@[simp] theorem setBuserr_spklen (s : State) : (setBuserr s).spklen = s.spklen := rfl
@[simp] theorem setBuserr_vmstat (s : State) : (setBuserr s).vmstat = s.vmstat := rfl
@[simp] theorem setBuserr_resetLine (s : State) : (setBuserr s).resetLine = s.resetLine := rfl
@[simp] theorem setBuserr_vm (s : State) : (setBuserr s).vm = s.vm := rfl
@[simp] theorem setBuserr_nonce (s : State) : (setBuserr s).nonce = s.nonce := rfl
@[simp] theorem setBuserr_bus (s : State) : (setBuserr s).bus = s.bus := rfl
@[simp] theorem setBuserr_reads (s : State) : (setBuserr s).reads = s.reads := rfl
@[simp] theorem setBuserr_draws (s : State) : (setBuserr s).draws = s.draws := rfl

end Sys2Proof.Machine
end

