-- ==== Sys2Proof/Laws/Memory.lean ====
section
/-! SUPPORT. The buffer memory: read after write, and the canonical form kept by every operation. -/

namespace Sys2Proof.Machine

/-- An offset below every listed one is unlisted, so it reads as 0. -/
theorem memRead_eq_zero_of_lt (m : Memory) (a : Nat) (h : ∀ c ∈ m, a < c.1) : memRead m a = 0 := by
  induction m with
  | nil => rfl
  | cons c rest ih =>
    have hc := h c (by simp)
    simp only [memRead]
    rw [if_neg (by omega)]
    exact ih fun d hd => h d (by simp [hd])

/-- Read after write: the byte stored, and every other byte as before. -/
theorem memRead_memWrite (m : Memory) (hm : m.Pairwise fun x y => x.1 < y.1) (a : Nat) (v : Byte) (k : Nat) :
    memRead (memWrite m a v) k = if k = a then v else memRead m k := by
  induction m with
  | nil =>
    simp only [memWrite]
    by_cases hk : k = a
    · subst hk
      split <;> simp_all [memRead]
    · rw [if_neg hk]
      split
      · rfl
      · simp only [memRead]
        rw [if_neg (Ne.symm hk)]
  | cons c rest ih =>
    obtain ⟨hlt, hrest⟩ := List.pairwise_cons.mp hm
    have ih := ih hrest
    simp only [memWrite]
    split
    · rename_i h1
      split
      · rename_i hv
        by_cases hk : k = a
        · subst hk
          rw [if_pos rfl, hv]
          exact memRead_eq_zero_of_lt _ _ (by
            intro d hd
            rcases List.mem_cons.mp hd with rfl | hd
            · exact h1
            · exact Nat.lt_trans h1 (hlt d hd))
        · rw [if_neg hk]
      · simp only [memRead]
        by_cases hk : k = a
        · simp [hk]
        · rw [if_neg (Ne.symm hk), if_neg hk]
    · split
      · rename_i h1 h2
        subst h2
        split
        · rename_i hv
          by_cases hk : k = c.1
          · rw [if_pos hk, hv, hk]
            exact memRead_eq_zero_of_lt _ _ hlt
          · rw [if_neg hk]
            simp only [memRead]
            rw [if_neg (Ne.symm hk)]
        · simp only [memRead]
          by_cases hk : k = c.1
          · simp [hk]
          · rw [if_neg (Ne.symm hk), if_neg hk, if_neg (Ne.symm hk)]
      · rename_i h1 h2
        simp only [memRead, ih]
        by_cases hk : c.1 = k
        · rw [if_pos hk, if_neg (by omega), if_pos hk]
        · rw [if_neg hk, if_neg hk]

/-- A cell listed after a write was listed before or is the one stored, which is not zero. -/
theorem mem_memWrite {m : Memory} {a : Nat} {v : Byte} {c : Host.Cell} (h : c ∈ memWrite m a v) :
    c ∈ m ∨ (c = (a, v) ∧ v ≠ 0) := by
  induction m with
  | nil =>
    simp only [memWrite] at h
    split at h <;> simp_all
  | cons d rest ih =>
    simp only [memWrite] at h
    split at h
    · split at h <;> simp_all; tauto
    · split at h
      · split at h <;> simp_all; tauto
      · rcases List.mem_cons.mp h with rfl | h
        · simp
        · rcases ih h with h | h
          · simp [h]
          · exact .inr h

/-- A write keeps the offsets strictly rising. -/
theorem memWrite_pairwise {m : Memory} (hm : m.Pairwise fun x y => x.1 < y.1) (a : Nat) (v : Byte) :
    (memWrite m a v).Pairwise fun x y => x.1 < y.1 := by
  induction m with
  | nil => simp only [memWrite]; split <;> simp
  | cons c rest ih =>
    obtain ⟨hlt, hrest⟩ := List.pairwise_cons.mp hm
    simp only [memWrite]
    split
    · rename_i h1
      split
      · exact hm
      · refine List.pairwise_cons.mpr ⟨?_, hm⟩
        intro d hd
        rcases List.mem_cons.mp hd with rfl | hd
        · exact h1
        · exact Nat.lt_trans h1 (hlt d hd)
    · split
      · rename_i h1 h2
        split
        · exact hrest
        · refine List.pairwise_cons.mpr ⟨?_, hrest⟩
          intro d hd
          rw [h2]
          exact hlt d hd
      · rename_i h1 h2
        refine List.pairwise_cons.mpr ⟨?_, ih hrest⟩
        intro d hd
        rcases mem_memWrite hd with hd | ⟨rfl, -⟩
        · exact hlt d hd
        · exact Nat.lt_of_le_of_ne (Nat.le_of_not_lt h1) (Ne.symm h2)

/-- A write inside the buffers keeps the canonical form. -/
theorem memWrite_wf {m : Memory} (hm : m.wf) {a : Nat} (h1 : bufferStart ≤ a) (h2 : a < bufferEnd) (v : Byte) :
    (memWrite m a v).wf := by
  refine ⟨memWrite_pairwise hm.1 a v, fun c hc => ?_⟩
  rcases mem_memWrite hc with hc | ⟨rfl, hv⟩
  · exact hm.2 c hc
  · exact ⟨h1, h2, hv⟩

/-- The memory after a reset is in canonical form. -/
theorem resetMemory_wf (d : Nat) : (resetMemory d).wf := by
  refine ⟨?_, fun c hc => ?_⟩
  · refine List.Pairwise.filterMap _ (R := fun x y => x < y) ?_ (List.pairwise_lt_range' (step := 1) (by decide))
    intro a a' ha b hb b' hb'
    simp only [Option.ite_none_left_eq_some, Option.some.injEq] at hb hb'
    obtain ⟨-, rfl⟩ := hb
    obtain ⟨-, rfl⟩ := hb'
    exact ha
  · simp only [resetMemory, List.mem_filterMap, List.mem_range'_1, Option.ite_none_left_eq_some,
      Option.some.injEq] at hc
    obtain ⟨a, ⟨h1, h2⟩, hv, rfl⟩ := hc
    exact ⟨h1, by simpa [bufferStart, bufferEnd] using h2, hv⟩

/-- The memory of the reset state is in canonical form. -/
theorem reset_mem_wf : State.reset.mem.wf := by simp [State.reset, Memory.wf]

/-- A read of `n` bytes gives `n` bytes. -/
@[simp] theorem memBytes_length (m : Memory) (a n : Nat) : (memBytes m a n).length = n := by simp [memBytes]

end Sys2Proof.Machine
end

