-- ==== Sys2Proof/Laws/Ops.lean ====
section
/-! SUPPORT. What each shared operation can do, said once: if it answers a next state, one of these cases holds. -/

namespace Sys2Proof.Machine

/-- `raise` answers the fault's completion. -/
@[simp] theorem raise_next (s t : State) (c : FaultCode) : raise s c = .next t ↔ t = raiseFault s c := by
  simp [raise, eq_comm]

/-- `finish` answers the command's completion. -/
@[simp] theorem finish_next (s t : State) (r : Bool) : finish s r = .next t ↔ t = complete s r := by
  simp [finish, eq_comm]

/-- `fail(reason)` answers SCRIPT's completion with a false verdict. -/
@[simp] theorem vmFail_next (s t : State) (r : Reason) : vmFail s r = .next t ↔ t = finishScript s r := by
  simp [vmFail, eq_comm]

/-- A range-checked operand: ERANGE, or the rest of the command on its value. -/
theorem rangeChecked_cases {m : Nat} {s t : State} {i : Fin 16} {k : Nat → Result}
    (h : rangeChecked m s i k = .next t) :
    (m ≤ readB s i ∧ t = raiseFault s .range) ∨ (readB s i < m ∧ k (readB s i) = .next t) := by
  unfold rangeChecked at h
  split at h
  · exact .inl ⟨‹_›, by simpa using h⟩
  · exact .inr ⟨Nat.lt_of_not_ge ‹_›, h⟩

/-- An operand below its modulus goes through the range check. -/
theorem rangeChecked_of_lt {m : Nat} {s : State} {i : Fin 16} (k : Nat → Result) (h : readB s i < m) :
    rangeChecked m s i k = k (readB s i) := if_neg (Nat.not_le_of_lt h)

/-- Two range-checked operands: ERANGE for the first, for the second, or the rest of the command. -/
theorem rangeChecked2_cases {m : Nat} {s t : State} {ra rb : Fin 16} {k : Nat → Nat → Result}
    (h : rangeChecked2 m s ra rb k = .next t) :
    ((m ≤ readB s ra ∨ m ≤ readB s rb) ∧ t = raiseFault s .range) ∨
      (readB s ra < m ∧ readB s rb < m ∧ k (readB s ra) (readB s rb) = .next t) := by
  rcases rangeChecked_cases h with ⟨h1, rfl⟩ | ⟨h1, h⟩
  · exact .inl ⟨.inl h1, rfl⟩
  · rcases rangeChecked_cases h with ⟨h2, rfl⟩ | ⟨h2, h⟩
    · exact .inl ⟨.inr h2, rfl⟩
    · exact .inr ⟨h1, h2, h⟩

/-- Two operands below their modulus go through the range checks. -/
theorem rangeChecked2_of_lt {m : Nat} {s : State} {ra rb : Fin 16} (k : Nat → Nat → Result)
    (h1 : readB s ra < m) (h2 : readB s rb < m) :
    rangeChecked2 m s ra rb k = k (readB s ra) (readB s rb) := by
  rw [rangeChecked2, rangeChecked_of_lt _ h1, rangeChecked_of_lt _ h2]

/-- An operand to invert: ERANGE, EINVZ, or the rest of the command on a nonzero value. -/
theorem invertible_cases {m : Nat} {s t : State} {i : Fin 16} {k : Nat → Result}
    (h : invertible m s i k = .next t) :
    (m ≤ readB s i ∧ t = raiseFault s .range) ∨ (readB s i < m ∧ readB s i = 0 ∧ t = raiseFault s .invz) ∨
      (readB s i < m ∧ readB s i ≠ 0 ∧ k (readB s i) = .next t) := by
  rcases rangeChecked_cases h with ⟨h1, rfl⟩ | ⟨h1, h⟩
  · exact .inl ⟨h1, rfl⟩
  · split at h
    · exact .inr (.inl ⟨h1, ‹_›, by simpa using h⟩)
    · exact .inr (.inr ⟨h1, ‹_›, h⟩)

/-- A validated point operand: ENOTCURVE, or the rest of the command on the point. -/
theorem validPoint_cases {s t : State} {i : Fin 8} {k : Point → Result} (h : validPoint s i k = .next t) :
    (pointValid (readPoint s i) = false ∧ t = raiseFault s .notCurve) ∨
      (pointValid (readPoint s i) = true ∧ k (readPoint s i) = .next t) := by
  unfold validPoint at h
  split at h
  · exact .inr ⟨‹_›, h⟩
  · rename_i hv
    exact .inl ⟨Bool.eq_false_iff.mpr hv, by simpa using h⟩

/-- A valid point goes through the validation. -/
theorem validPoint_of_valid {s : State} {i : Fin 8} (k : Point → Result)
    (h : pointValid (readPoint s i) = true) : validPoint s i k = k (readPoint s i) := if_pos h

/-- SIGHASH's and SCRIPT's checks: a fault of their row of R331, or the rest of the command on the parsed transaction
and its input INIDX. -/
theorem checkedTx_cases {s t : State} {k : Tx → TxIn → Result} (h : checkedTx s k = .next t) :
    (∃ c, (c = .len ∨ c = .parse ∨ c = .index) ∧ t = raiseFault s c) ∨
      (∃ tx x, s.txlen.toNat ≤ txBufSize ∧ s.spklen.toNat ≤ spkBufSize ∧ parseTx (txBytes s) = some tx ∧
        tx.ins[s.inidx.toNat]? = some x ∧ k tx x = .next t) := by
  unfold checkedTx at h
  split at h
  · exact .inl ⟨.len, by simpa using h⟩
  split at h
  · exact .inl ⟨.len, by simpa using h⟩
  split at h
  · exact .inl ⟨.parse, by simpa using h⟩
  split at h
  · exact .inl ⟨.index, by simpa using h⟩
  · exact .inr ⟨_, _, Nat.le_of_not_lt ‹_›, Nat.le_of_not_lt ‹_›, ‹_›, ‹_›, h⟩

/-- A script command answers a next state only where a script is being evaluated. -/
theorem withVm_cases {s t : State} {k : Vm → Result} (h : withVm s k = .next t) :
    ∃ v, s.vm = some v ∧ k v = .next t := by
  unfold withVm at h
  split at h
  · cases h
  · exact ⟨_, ‹_›, h⟩

/-- A script command in an evaluation works on its VM state. -/
theorem withVm_of_some {s : State} {v : Vm} (k : Vm → Result) (h : s.vm = some v) : withVm s k = k v := by
  simp [withVm, h]

/-- A push: ELEM_SIZE, STACK_OVERFLOW, or the next command with the element on the stack. -/
theorem vmPush_cases {s t : State} {v : Vm} {stack : List Bytes} {x : Bytes}
    (h : vmPush s v stack x = .next t) :
    (elemMax < x.length ∧ t = finishScript s .elemSize) ∨
      (stack.length = stackMax ∧ t = finishScript s .stackOverflow) ∨
      (x.length ≤ elemMax ∧ stack.length ≠ stackMax ∧
        t = { s with vm := some { v with ip := v.ip + 1, stack := x :: stack } }) := by
  unfold vmPush at h
  split at h
  · exact .inl ⟨‹_›, by simpa using h⟩
  split at h
  · exact .inr (.inl ⟨‹_›, by simpa using h⟩)
  · refine .inr (.inr ⟨Nat.le_of_not_lt ‹_›, ‹_›, ?_⟩)
    simpa [vmNext, eq_comm] using h

/-- A command that pushes a constant or its data: the cases of its push. -/
theorem pushData_cases {s t : State} {x : Bytes} (h : pushData s x = .next t) :
    ∃ v, s.vm = some v ∧
      ((elemMax < x.length ∧ t = finishScript s .elemSize) ∨
        (v.stack.length = stackMax ∧ t = finishScript s .stackOverflow) ∨
        (x.length ≤ elemMax ∧ v.stack.length ≠ stackMax ∧
          t = { s with vm := some { v with ip := v.ip + 1, stack := x :: v.stack } })) := by
  obtain ⟨v, hv, h⟩ := withVm_cases h
  exact ⟨v, hv, vmPush_cases h⟩

/-- An unsupported opcode ends the evaluation. -/
theorem badOpcode_cases {s t : State} (h : badOpcode s = .next t) : t = finishScript s .badOpcode := by
  obtain ⟨_, _, h⟩ := withVm_cases h
  simpa using h

/-- The start of an evaluation: a parse failure completes SCRIPT, else the program is present. -/
theorem startScript_cases {s t : State} {tx : Tx} {sig : Bytes} (h : startScript s tx sig = .next t) :
    t = finishScript s .sigParse ∨ t = finishScript s .pubkeyScriptParse ∨
      ∃ a b, parseScript sig = .ok a ∧ parseScript (spkBytes s) = .ok b ∧
        t = { s with vm := some (vmStart (a ++ b) tx) } := by
  unfold startScript at h
  split at h
  · exact .inl (by simpa using h)
  split at h
  · exact .inr (.inl (by simpa using h))
  · exact .inr (.inr ⟨_, _, ‹_›, ‹_›, by simpa [eq_comm] using h⟩)

/-- What the engine does while BUSY is what it fetched. -/
theorem engineStep_busy {s : State} (h : s.status.busy = true) :
    engineStep s =
      match fetch s with
      | .run i => exec i s
      | .illegal => raise s .illegal
      | .scriptEnd v => finishEvaluation s v := if_pos h

/-- The engine does nothing while IDLE. -/
theorem engineStep_idle {s : State} (h : s.status.busy = false) : engineStep s = .next s := by
  simp [engineStep, h]

/-- A step is a step of the engine, or the next host event. -/
theorem step_cases (s : State) :
    step s = engineStep s ∨
      ∃ e rest, s.bus = e :: rest ∧ step s = .next (hostEvent { s with bus := rest } e.op) := by
  unfold step machineStep
  split
  · exact .inl rfl
  · split
    · exact .inl rfl
    · exact .inr ⟨_, _, ‹_›, rfl⟩

end Sys2Proof.Machine
end

