-- ==== Sys2Proof/Laws/Exec.lean ====
section
/-! SUPPORT. What exec can do, said once over all instructions: which meaning a script command shares, and the shapes of
the next state of any instruction. -/

namespace Sys2Proof.Machine

/-- A script command is a push of fixed bytes, an unsupported opcode, or one of four opcodes. -/
theorem exec_script_shape {i : Instr} (h : (scriptOf i).isSome = true) (s : State) :
    (∃ x, pushedBytes i = some x ∧ exec i s = pushData s x) ∨ (isUnsupported i = true ∧ exec i s = badOpcode s) ∨
      (i = .opDup ∨ i = .opHash160 ∨ i = .opEqualVerify ∨ i = .opCheckSig) := by
  cases i
  all_goals first
    | exact .inl ⟨_, rfl, rfl⟩
    | exact .inr (.inl ⟨rfl, rfl⟩)
    | (right; right; simp; done)
    | (exfalso; simp [scriptOf, encode] at h)

/-- The stack keeps the VM's limits (44_script.md R264). -/
def StackBounded (stack : List Bytes) : Prop := stack.length ≤ stackMax ∧ ∀ x ∈ stack, x.length ≤ elemMax

/-- A script command ends the evaluation, or goes on to the next command with a stack that keeps the limits if the one
before did. -/
def ScriptStep (s t : State) : Prop :=
  ∃ v, s.vm = some v ∧
    ((∃ r, t = finishScript s r) ∨
      ∃ stack chk, t = { s with vm := some { v with ip := v.ip + 1, stack := stack, chkfail := chk } } ∧
        (StackBounded v.stack → StackBounded stack))

theorem scriptStep_of_vmPush {s t : State} {v : Vm} {chk : Bool} {stack : List Bytes} {x : Bytes}
    (hv : s.vm = some v) (hb : StackBounded v.stack → StackBounded stack)
    (h : vmPush s { v with chkfail := chk } stack x = .next t) : ScriptStep s t := by
  refine ⟨v, hv, ?_⟩
  rcases vmPush_cases h with ⟨_, rfl⟩ | ⟨_, rfl⟩ | ⟨h1, h2, rfl⟩
  · exact .inl ⟨_, rfl⟩
  · exact .inl ⟨_, rfl⟩
  · refine .inr ⟨x :: stack, chk, rfl, fun hs => ?_⟩
    obtain ⟨h3, h4⟩ := hb hs
    refine ⟨?_, ?_⟩
    · simp only [List.length_cons]; omega
    · intro y hy
      rcases List.mem_cons.mp hy with rfl | hy
      · exact h1
      · exact h4 y hy

/-- Every script command answers a next state by one step of the evaluation. -/
theorem exec_script_step {i : Instr} {s t : State} (hi : (scriptOf i).isSome = true) (h : exec i s = .next t) :
    ScriptStep s t := by
  rcases exec_script_shape hi s with ⟨x, _, hx⟩ | ⟨_, hx⟩ | hx
  · rw [hx] at h
    obtain ⟨v, hv, h⟩ := withVm_cases h
    exact scriptStep_of_vmPush (chk := v.chkfail) hv id h
  · rw [hx] at h
    obtain ⟨v, hv, h'⟩ := withVm_cases h
    exact ⟨v, hv, .inl ⟨_, badOpcode_cases h⟩⟩
  · rcases hx with rfl | rfl | rfl | rfl
    · obtain ⟨v, hv, h⟩ := withVm_cases h
      split at h
      · exact ⟨v, hv, .inl ⟨_, by simpa using h⟩⟩
      · rename_i x rest hst
        exact scriptStep_of_vmPush (chk := v.chkfail) hv (fun hs => hst ▸ hs) h
    · obtain ⟨v, hv, h⟩ := withVm_cases h
      split at h
      · exact ⟨v, hv, .inl ⟨_, by simpa using h⟩⟩
      · rename_i x rest hst
        refine scriptStep_of_vmPush (chk := v.chkfail) hv (fun hs => ?_) h
        rw [hst] at hs
        exact ⟨by have := hs.1; simp only [List.length_cons] at this; omega, fun y hy => hs.2 y (by simp [hy])⟩
    · obtain ⟨v, hv, h⟩ := withVm_cases h
      split at h
      · rename_i a b rest hst
        split at h
        · refine ⟨v, hv, .inr ⟨rest, v.chkfail, ?_, fun hs => ?_⟩⟩
          · simpa [vmNext, eq_comm] using h
          · rw [hst] at hs
            exact ⟨by have := hs.1; simp only [List.length_cons] at this; omega,
              fun y hy => hs.2 y (by simp [hy])⟩
        · exact ⟨v, hv, .inl ⟨_, by simpa using h⟩⟩
      · exact ⟨v, hv, .inl ⟨_, by simpa using h⟩⟩
    · obtain ⟨v, hv, h⟩ := withVm_cases h
      split at h
      · rename_i a b rest hst
        split at h
        · exact ⟨v, hv, .inl ⟨_, by simpa using h⟩⟩
        · refine scriptStep_of_vmPush hv (fun hs => ?_) h
          rw [hst] at hs
          exact ⟨by have := hs.1; simp only [List.length_cons] at this; omega, fun y hy => hs.2 y (by simp [hy])⟩
      · exact ⟨v, hv, .inl ⟨_, by simpa using h⟩⟩

/-- What the destinations of a completed command may be: the registers its rule names (`destB`, `destP`, `writesSh`). -/
def WroteDestinations (i : Instr) (s t : State) : Prop :=
  (∃ r, Finished { s with b := t.b, px := t.px, py := t.py, pinf := t.pinf, sh := t.sh } t r) ∧
    (∀ j, j ∉ destB i → t.b[j] = s.b[j]) ∧
    (∀ j, j ∉ destP i → t.px[j] = s.px[j] ∧ t.py[j] = s.py[j] ∧ pinfBit t j = pinfBit s j) ∧
    (writesSh i = false → t.sh = s.sh)

/-- Another bit of PINF stands (42_curve.md R202). -/
theorem setPinfBit_other (p : Byte) (i j : Fin 8) (v : Bool) (h : j ≠ i) :
    (setPinfBit p i v).getLsbD j = p.getLsbD j := by
  have hij : j.val ≠ i.val := fun e => h (Fin.ext e)
  have hj := j.isLt
  have hi := i.isLt
  simp only [setPinfBit, BitVec.getLsbD_or, BitVec.getLsbD_and, BitVec.getLsbD_not, BitVec.getLsbD_shiftLeft,
    BitVec.getLsbD_setWidth, BitVec.getLsbD_ofBool, BitVec.getLsbD_one]
  by_cases hlt : j.val < i.val
  · simp [hlt, hj]
  · have h1 : ¬ (j.val - i.val = 0) := by omega
    simp [hlt, hj, h1]

/-- The bit written reads back (R202). -/
theorem setPinfBit_same (p : Byte) (i : Fin 8) (v : Bool) : (setPinfBit p i v).getLsbD i = v := by
  have hi := i.isLt
  simp [setPinfBit, hi]

theorem wrote_of_finish {i : Instr} {s t : State} {r : Bool} (h : finish s r = .next t) : WroteDestinations i s t := by
  obtain rfl := (finish_next _ _ _).mp h
  exact ⟨⟨r, rfl⟩, fun _ _ => rfl, fun _ _ => ⟨rfl, rfl, rfl⟩, fun _ => rfl⟩

theorem wrote_of_writeB {i : Instr} {s t : State} {rd : Fin 16} {v : Nat} {r : Bool} (hd : rd ∈ destB i)
    (h : finish (writeB s rd v) r = .next t) : WroteDestinations i s t := by
  obtain rfl := (finish_next _ _ _).mp h
  refine ⟨⟨r, rfl⟩, fun j hj => ?_, fun _ _ => ⟨rfl, rfl, rfl⟩, fun _ => rfl⟩
  have hne : rd ≠ j := fun e => hj (e ▸ hd)
  simp only [complete, writeB, Fin.getElem_fin]
  exact Vector.getElem_set_ne _ _ (fun e => hne (Fin.ext e))

theorem wrote_of_setPointRegs {i : Instr} {s t : State} {pd : Fin 8} {x y : Wide} {f r : Bool} (hd : pd ∈ destP i)
    (h : finish (setPointRegs s pd x y f) r = .next t) : WroteDestinations i s t := by
  obtain rfl := (finish_next _ _ _).mp h
  refine ⟨⟨r, rfl⟩, fun _ _ => rfl, fun j hj => ?_, fun _ => rfl⟩
  have hne : pd ≠ j := fun e => hj (e ▸ hd)
  refine ⟨?_, ?_, setPinfBit_other _ _ _ _ (Ne.symm hne)⟩
  · simp only [complete, setPointRegs, Fin.getElem_fin]
    exact Vector.getElem_set_ne _ _ (fun e => hne (Fin.ext e))
  · simp only [complete, setPointRegs, Fin.getElem_fin]
    exact Vector.getElem_set_ne _ _ (fun e => hne (Fin.ext e))

theorem wrote_of_writePoint {i : Instr} {s t : State} {pd : Fin 8} {q : Point} {r : Bool} (hd : pd ∈ destP i)
    (h : finish (writePoint s pd q) r = .next t) : WroteDestinations i s t := by
  cases q <;> exact wrote_of_setPointRegs hd h

/-- The shapes of the next state of a command of the block: a fault of its row, a completion with its destinations
written, a rejected candidate of ESIGN, or the verdict or the start of a SCRIPT. -/
def CommandShape (i : Instr) (s t : State) : Prop :=
  (∃ c ∈ faultRow i, t = raiseFault s c) ∨ WroteDestinations i s t ∨
    (∃ n, t = { s with nonce := some n } ∧ ∃ rd rc ra rb, i = .esign rd rc ra rb) ∨
    (i = .script ∧ ((∃ r, t = finishScript s r) ∨ ∃ prog tx, t = { s with vm := some (vmStart prog tx) }))

theorem shape_of_fault {i : Instr} {s t : State} {c : FaultCode} (hc : c ∈ faultRow i) (h : t = raiseFault s c) :
    CommandShape i s t := .inl ⟨c, hc, h⟩

theorem shape_of_wrote {i : Instr} {s t : State} (h : WroteDestinations i s t) : CommandShape i s t := .inr (.inl h)

theorem shape_of_fieldOp2 {i : Instr} {s t : State} {m : Nat} {f : Nat → Nat → Nat} {rd ra rb : Fin 16}
    (hd : destB i = [rd]) (hf : faultRow i = [.illegal, .range]) (h : fieldOp2 m f rd ra rb s = .next t) :
    CommandShape i s t := by
  rcases rangeChecked2_cases h with ⟨_, h⟩ | ⟨_, _, h⟩
  · exact shape_of_fault (by rw [hf]; decide) h
  · exact shape_of_wrote (wrote_of_writeB (by rw [hd]; exact List.mem_singleton_self rd) h)

theorem shape_of_fieldInv {i : Instr} {s t : State} {m : Nat} {rd ra : Fin 16} (hd : destB i = [rd])
    (hf : faultRow i = [.illegal, .range, .invz]) (h : fieldInv m rd ra s = .next t) : CommandShape i s t := by
  rcases invertible_cases h with ⟨_, h⟩ | ⟨_, _, h⟩ | ⟨_, _, h⟩
  · exact shape_of_fault (by rw [hf]; decide) h
  · exact shape_of_fault (by rw [hf]; decide) h
  · exact shape_of_wrote (wrote_of_writeB (by rw [hd]; exact List.mem_singleton_self rd) h)

theorem shape_of_fieldPow {i : Instr} {s t : State} {m : Nat} {rd ra rb : Fin 16} (hd : destB i = [rd])
    (hf : faultRow i = [.illegal, .range]) (h : fieldPow m rd ra rb s = .next t) : CommandShape i s t := by
  rcases rangeChecked_cases h with ⟨_, h⟩ | ⟨_, h⟩
  · exact shape_of_fault (by rw [hf]; decide) h
  · exact shape_of_wrote (wrote_of_writeB (by rw [hd]; exact List.mem_singleton_self rd) h)

theorem shape_of_fieldEq {i : Instr} {s t : State} {m : Nat} {ra rb : Fin 16}
    (hf : faultRow i = [.illegal, .range]) (h : fieldEq m ra rb s = .next t) : CommandShape i s t := by
  rcases rangeChecked2_cases h with ⟨_, h⟩ | ⟨_, _, h⟩
  · exact shape_of_fault (by rw [hf]; decide) h
  · exact shape_of_wrote (wrote_of_finish h)

theorem shape_of_writeB {i : Instr} {s t : State} {rd : Fin 16} {v : Nat} {r : Bool} (hd : destB i = [rd])
    (h : finish (writeB s rd v) r = .next t) : CommandShape i s t :=
  shape_of_wrote (wrote_of_writeB (by rw [hd]; exact List.mem_singleton_self rd) h)

theorem shape_of_writePoint {i : Instr} {s t : State} {pd : Fin 8} {q : Point} {r : Bool} (hd : destP i = [pd])
    (h : finish (writePoint s pd q) r = .next t) : CommandShape i s t :=
  shape_of_wrote (wrote_of_writePoint (by rw [hd]; exact List.mem_singleton_self pd) h)

theorem shape_ldk {rd k : Fin 16} {s t : State} (h : execLdk rd k s = .next t) : CommandShape (.ldk rd k) s t := by
  unfold execLdk at h
  split at h
  · exact shape_of_fault (c := .illegal) (List.mem_singleton_self _) (by simpa using h)
  · exact shape_of_writeB rfl h

theorem shape_fsqrt {rd ra : Fin 16} {s t : State} (h : execFsqrt rd ra s = .next t) :
    CommandShape (.fsqrt rd ra) s t := by
  rcases rangeChecked_cases h with ⟨_, h⟩ | ⟨_, h⟩
  · exact shape_of_fault (List.mem_cons_of_mem _ (List.mem_singleton_self _)) h
  · exact shape_of_writeB rfl h

theorem shape_padd {pd pa pb : Fin 8} {s t : State} (h : execPadd pd pa pb s = .next t) :
    CommandShape (.padd pd pa pb) s t := by
  rcases validPoint_cases h with ⟨_, h⟩ | ⟨_, h⟩
  · exact shape_of_fault (List.mem_cons_of_mem _ (List.mem_singleton_self _)) h
  rcases validPoint_cases h with ⟨_, h⟩ | ⟨_, h⟩
  · exact shape_of_fault (List.mem_cons_of_mem _ (List.mem_singleton_self _)) h
  · exact shape_of_writePoint rfl h

theorem shape_pdbl {pd pa : Fin 8} {s t : State} (h : execPdbl pd pa s = .next t) :
    CommandShape (.pdbl pd pa) s t := by
  rcases validPoint_cases h with ⟨_, h⟩ | ⟨_, h⟩
  · exact shape_of_fault (List.mem_cons_of_mem _ (List.mem_singleton_self _)) h
  · exact shape_of_writePoint rfl h

theorem shape_pmul {pd pa : Fin 8} {rb : Fin 16} {s t : State} (h : execPmul pd pa rb s = .next t) :
    CommandShape (.pmul pd pa rb) s t := by
  rcases validPoint_cases h with ⟨_, h⟩ | ⟨_, h⟩
  · exact shape_of_fault (List.mem_cons_of_mem _ (List.mem_singleton_self _)) h
  · exact shape_of_writePoint rfl h

theorem shape_pmov {pd pa : Fin 8} {s t : State} (h : execPmov pd pa s = .next t) :
    CommandShape (.pmov pd pa) s t :=
  shape_of_wrote (wrote_of_setPointRegs (List.mem_singleton_self pd) h)

theorem shape_of_sh {i : Instr} {s t : State} {sh : Vector Word 8} (hi : writesSh i = true)
    (h : finish { s with sh := sh } false = .next t) : CommandShape i s t := by
  obtain rfl := (finish_next _ _ _).mp h
  exact shape_of_wrote
    ⟨⟨_, rfl⟩, fun _ _ => rfl, fun _ _ => ⟨rfl, rfl, rfl⟩, fun hn => Bool.noConfusion (hi.symm.trans hn)⟩

theorem shape_esign {rd rc ra rb : Fin 16} {s t : State} (h : execEsign rd rc ra rb s = .next t) :
    CommandShape (.esign rd rc ra rb) s t := by
  unfold execEsign at h
  split at h
  · exact shape_of_fault (c := .illegal) List.mem_cons_self (by simpa using h)
  split at h
  · exact shape_of_fault (c := .key) (List.mem_cons_of_mem _ (List.mem_singleton_self _)) (by simpa using h)
  split at h
  · rename_i r sv _
    obtain rfl := (finish_next _ _ _).mp h
    refine shape_of_wrote ⟨⟨_, rfl⟩, fun j hj => ?_, fun _ _ => ⟨rfl, rfl, rfl⟩, fun _ => rfl⟩
    have h1 : rd ≠ j := fun e => hj (e ▸ List.mem_cons_self)
    have h2 : rc ≠ j := fun e => hj (e ▸ List.mem_cons_of_mem _ (List.mem_singleton_self _))
    simp only [complete, writeB, Fin.getElem_fin]
    rw [Vector.getElem_set_ne _ _ (fun e => h2 (Fin.ext e)), Vector.getElem_set_ne _ _ (fun e => h1 (Fin.ext e))]
  · exact .inr (.inr (.inl ⟨_, by simpa [eq_comm] using h, _, _, _, _, rfl⟩))

theorem shape_everify {pd : Fin 8} {ra rb rc : Fin 16} {s t : State} (h : execEverify pd ra rb rc s = .next t) :
    CommandShape (.everify pd ra rb rc) s t := by
  rcases validPoint_cases h with ⟨_, h⟩ | ⟨_, h⟩
  · exact shape_of_fault (List.mem_cons_of_mem _ List.mem_cons_self) h
  split at h
  · exact shape_of_fault (c := .key) (List.mem_cons_of_mem _ (List.mem_cons_of_mem _ (List.mem_singleton_self _)))
      (by simpa using h)
  · exact shape_of_wrote (wrote_of_finish h)

theorem mem_faultRow_of_tx {c : FaultCode} (h : c = .len ∨ c = .parse ∨ c = .index) :
    c ∈ [FaultCode.illegal, .len, .parse, .index] := by rcases h with rfl | rfl | rfl <;> decide

theorem shape_sighash {rd : Fin 16} {s t : State} (h : execSighash rd s = .next t) :
    CommandShape (.sighash rd) s t := by
  rcases checkedTx_cases h with ⟨c, hc, h⟩ | ⟨_, _, _, _, _, _, h⟩
  · exact shape_of_fault (mem_faultRow_of_tx hc) h
  · exact shape_of_writeB rfl h

theorem shape_script {s t : State} (h : execScript s = .next t) : CommandShape .script s t := by
  rcases checkedTx_cases h with ⟨c, hc, h⟩ | ⟨_, _, _, _, _, _, h⟩
  · exact shape_of_fault (mem_faultRow_of_tx hc) h
  · refine .inr (.inr (.inr ⟨rfl, ?_⟩))
    rcases startScript_cases h with h | h | ⟨a, b, _, _, h⟩
    · exact .inl ⟨_, h⟩
    · exact .inl ⟨_, h⟩
    · exact .inr ⟨_, _, h⟩

/-- Every command of the block answers one of its shapes. -/
theorem exec_command_cases {i : Instr} {s t : State} (hi : (commandOf i).isSome = true) (h : exec i s = .next t) :
    CommandShape i s t := by
  cases i
  case nop => exact shape_of_wrote (wrote_of_finish h)
  case mov => exact shape_of_writeB rfl h
  case ldk => exact shape_ldk h
  case fadd => exact shape_of_fieldOp2 rfl rfl h
  case fsub => exact shape_of_fieldOp2 rfl rfl h
  case fmul => exact shape_of_fieldOp2 rfl rfl h
  case nadd => exact shape_of_fieldOp2 rfl rfl h
  case nsub => exact shape_of_fieldOp2 rfl rfl h
  case nmul => exact shape_of_fieldOp2 rfl rfl h
  case finv => exact shape_of_fieldInv rfl rfl h
  case ninv => exact shape_of_fieldInv rfl rfl h
  case fpow => exact shape_of_fieldPow rfl rfl h
  case npow => exact shape_of_fieldPow rfl rfl h
  case fsqrt => exact shape_fsqrt h
  case feq => exact shape_of_fieldEq rfl h
  case neq => exact shape_of_fieldEq rfl h
  case fred => exact shape_of_writeB rfl h
  case nred => exact shape_of_writeB rfl h
  case padd => exact shape_padd h
  case pdbl => exact shape_pdbl h
  case pmul => exact shape_pmul h
  case pldg => exact shape_of_writePoint rfl h
  case pchk => exact shape_of_wrote (wrote_of_finish h)
  case pmov => exact shape_pmov h
  case shainit => exact shape_of_sh rfl h
  case shacomp => exact shape_of_sh rfl h
  case esign => exact shape_esign h
  case everify => exact shape_everify h
  case sighash => exact shape_sighash h
  case script => exact shape_script h
  all_goals exact Bool.noConfusion hi

/-- Every instruction is a command of the block or a script command. -/
theorem command_or_script (i : Instr) : (commandOf i).isSome = true ∨ (scriptOf i).isSome = true := by
  unfold commandOf scriptOf
  cases encode i <;> simp

end Sys2Proof.Machine
end

