-- ==== Sys2Proof/Laws/Field.lean ====
section
/-! SUPPORT. The modular operations compute the exact integer's residue. -/

namespace Sys2Proof.Machine

/-- Subtraction is the residue of the integer difference (R11). -/
theorem subMod_eq_emod (m a b : Nat) (hm : 0 < m) : ((subMod m a b : Nat) : Int) = ((a : Int) - b) % m := by
  have hb := Nat.mod_lt b hm
  rw [subMod, Int.natCast_emod, Int.natCast_add, Int.natCast_sub (Nat.le_of_lt hb), Int.natCast_emod]
  rw [show (a : Int) + (m - b % m) = a - b % m + m by ring, Int.add_emod_right, Int.sub_emod_emod]

/-- The loop from bit i down multiplies in a to the exponent's low i bits. -/
theorem powLoop_eq (m a e i r : Nat) : powLoop m a e i r % m = r ^ 2 ^ i * a ^ (e % 2 ^ i) % m := by
  induction i generalizing r with
  | zero => simp [powLoop, Nat.mod_one]
  | succ i ih =>
    rw [powLoop, ih]
    have hmod := Nat.mod_pow_succ (b := 2) (k := i) (x := e)
    have hbit := Nat.testBit_eq_decide_div_mod_eq (x := e) (i := i)
    have hsq : mulMod m r r ≡ r ^ 2 [MOD m] := by
      rw [mulMod, ← Nat.pow_two]
      exact Nat.mod_modEq _ _
    have hpow : r ^ 2 ^ (i + 1) = (r ^ 2) ^ 2 ^ i := by rw [← Nat.pow_mul, ← Nat.pow_succ']
    cases h : e.testBit i
    · have h0 : e / 2 ^ i % 2 = 0 := by rw [h] at hbit; simp at hbit; omega
      rw [hmod, h0, Nat.mul_zero, Nat.add_zero, hpow, if_neg (by decide)]
      exact (hsq.pow _).mul_right _
    · have h1 : e / 2 ^ i % 2 = 1 := by rw [h] at hbit; simpa using hbit.symm
      rw [hmod, h1, Nat.mul_one, hpow, Nat.pow_add, if_pos rfl]
      have hstep : mulMod m (mulMod m r r) a ≡ r ^ 2 * a [MOD m] :=
        (Nat.mod_modEq _ _).trans (hsq.mul_right a)
      calc mulMod m (mulMod m r r) a ^ 2 ^ i * a ^ (e % 2 ^ i)
          ≡ (r ^ 2 * a) ^ 2 ^ i * a ^ (e % 2 ^ i) [MOD m] := (hstep.pow _).mul_right _
        _ = (r ^ 2) ^ 2 ^ i * (a ^ (e % 2 ^ i) * a ^ 2 ^ i) := by rw [Nat.mul_pow]; ring

/-- Every result of the loop is reduced, if its start is. -/
theorem powLoop_lt (m a e i r : Nat) (hr : r < m) : powLoop m a e i r < m := by
  induction i generalizing r with
  | zero => exact hr
  | succ i ih =>
    apply ih
    split <;> exact Nat.mod_lt _ (Nat.lt_of_le_of_lt (Nat.zero_le _) hr)

/-- Square-and-multiply over 256 bits is the power's residue (R171). -/
theorem powMod_eq (m a e : Nat) (hm : 1 < m) (he : e < 2 ^ 256) : powMod m a e = a ^ e % m := by
  rw [powMod, ← Nat.mod_eq_of_lt (powLoop_lt m a e 256 1 hm), powLoop_eq, Nat.one_pow, Nat.one_mul,
    Nat.mod_eq_of_lt he]

end Sys2Proof.Machine
end

