-- ==== Sys2Proof/Machine/Assembler.lean ====
section
/-! DEFINITION. Programs as 30_encoding.md writes them: the host operations (R107) as bus events, the
pseudo-instructions (R108) as the commands they expand to, and the script assembler (R111). The machine reads only
the bits; nothing of it calls this file. -/

namespace Sys2Proof.Machine

/-! ## Host operations (R107) -/

/-- An operation of a host program (R107). -/
inductive HostStmt where
  /-- `W32 off, v`. -/
  | w32 (off : BitVec 14) (v : Word)
  /-- `R32 off`. -/
  | r32 (off : BitVec 14)
  /-- `WB Bn, v`. -/
  | wb (n : Fin 16) (v : Wide)
  /-- `RB Bn`. -/
  | rb (n : Fin 16)
  /-- `WP Pn, x, y`. -/
  | wp (n : Fin 8) (x y : Wide)
  /-- `RP Pn`. -/
  | rp (n : Fin 8)
  /-- `WBUF off, bytes`. -/
  | wbuf (off : BitVec 14) (bytes : Bytes)
  /-- `ISSUE cmd`. -/
  | issue (i : Instr)
  /-- `WAIT`, with the number of its reads that find BUSY = 1, which the spec does not give (00_scope.md R6). -/
  | wait (polls : Nat)
deriving DecidableEq, Repr

/-- The offset of word j of Bn, `0x0100 + 0x20·n + 4·j` (R107). -/
def bWordOffset (n : Fin 16) (j : Nat) : BitVec 14 := BitVec.ofNat 14 (0x100 + 0x20 * n.val + 4 * j)

/-- The offset of word j of PXn and then PYn, j from 0 to 15 (20_memory.md R77). -/
def pointWordOffset (n : Fin 8) (j : Nat) : BitVec 14 := BitVec.ofNat 14 (0x400 + 0x40 * n.val + 4 * j)

/-- Word j of a 256-bit value, word 0 the most significant (R107). -/
def wideWord (v : Wide) (j : Nat) : Word := (v >>> (32 * (7 - j))).setWidth 32

/-- Byte writes of a byte string, one after the other from an offset on (R107). -/
def writeBytes (off : BitVec 14) : Bytes → List HostOp
  | [] => []
  | b :: bs => .write off 1 (b.setWidth 32) :: writeBytes (off + 1) bs

/-- The word `ISSUE` writes: a command's encoding; none for a script command, which has no command word. -/
def issuedWord (i : Instr) : Option Word :=
  match encode i with
  | .command w => some w
  | .script _ => none

/-- The accesses of a host operation but `WAIT` (R107). -/
def hostAccesses : HostStmt → List HostOp
  | .w32 off v => [.write off 4 v]
  | .r32 off => [.read off 4]
  | .wb n v => (List.range 8).map fun j => .write (bWordOffset n j) 4 (wideWord v j)
  | .rb n => (List.range 8).map fun j => .read (bWordOffset n j) 4
  | .wp n x y =>
    (List.range 16).map fun j =>
      .write (pointWordOffset n j) 4 (if j < 8 then wideWord x j else wideWord y (j - 8))
  | .rp n => (List.range 16).map fun j => .read (pointWordOffset n j) 4
  | .wbuf off bytes => writeBytes off bytes
  | .issue i => (issuedWord i).toList.map fun w => .write 0x0008 4 w
  | .wait _ => []

/-- `WAIT` as bus events: its reads of STATUS that find BUSY = 1, and the one it ends on, which lands with BUSY = 0
(R107). How many find BUSY = 1 is the caller's to say (log entry 21). -/
def waitEvents (polls : Nat) : List HostEvent :=
  List.replicate polls { whileBusy := true, op := .read 0x0004 4 } ++ [{ whileBusy := false, op := .read 0x0004 4 }]

/-- A host operation as bus events (R107), access `j` of it landing while a command runs where `lands j`, else waiting
for the completion. R107 does not say which, and LATENCY is open (00_scope.md R6, 70_reset_and_hazards.md R380), so
`lands` is the caller's; that it is one flag an access is the model's choice (DESIGN CHOICE, log entry 21). -/
def hostEvents (lands : Nat → Bool) : HostStmt → List HostEvent
  | .wait polls => waitEvents polls
  | other => (hostAccesses other).mapIdx fun j o => { whileBusy := lands j, op := o }

/-- A host program as the bus events it stands for, `lands i j` saying of access `j` of operation `i` whether it lands
while a command runs. Every LATENCY is some `lands` and some counts of the WAITs' reads (log entry 21). -/
def assembleProgram (lands : Nat → Nat → Bool) (p : List HostStmt) : List HostEvent :=
  (p.mapIdx fun i h => hostEvents (lands i) h).flatten

/-- `RUN cmd`: `ISSUE cmd` and then `WAIT` (R108). -/
def runCommand (i : Instr) (polls : Nat) : List HostStmt := [.issue i, .wait polls]

/-! ## Pseudo-instructions (R108) -/

/-- A pseudo-instruction; `bz` is the zero register and `bt` the scratch register the program keeps for it (R108). -/
inductive Pseudo where
  /-- `CLR Bd`. -/
  | clr (bd : Fin 16)
  /-- `FSQR Bd, Ba`. -/
  | fsqr (bd ba : Fin 16)
  /-- `FNEG Bd, Ba`, using Bz. -/
  | fneg (bd ba bz : Fin 16)
  /-- `NNEG Bd, Ba`, using Bz. -/
  | nneg (bd ba bz : Fin 16)
  /-- `FDIV Bd, Ba, Bb`, using the scratch register Bt. -/
  | fdiv (bd ba bb bt : Fin 16)
  /-- `PNEG Pd, Pa`. -/
  | pneg (pd pa : Fin 8)
  /-- `LDG Bx, By`. -/
  | ldg (bx bY : Fin 16)
deriving DecidableEq, Repr

/-- The commands a pseudo-instruction expands to; none where the assembler refuses it (R108). -/
def expandPseudo : Pseudo → Option (List Instr)
  | .clr bd => some [.ldk bd 0]
  | .fsqr bd ba => some [.fmul bd ba ba]
  | .fneg bd ba bz => some [.fsub bd bz ba]
  | .nneg bd ba bz => some [.nsub bd bz ba]
  | .fdiv bd ba bb bt => some [.finv bt bb, .fmul bd ba bt]
  | .pneg _ _ => none
  | .ldg bx bY => some [.ldk bx 4, .ldk bY 5]

/-! ## The script assembler (R111) -/

/-- A word of a script as R111 writes it: an opcode by name, a push form by name with its data, or `<hex>`. -/
inductive ScriptWord where
  /-- An opcode or an explicit push form. -/
  | command (i : Instr)
  /-- `<hex>`. -/
  | data (bytes : Bytes)
deriving DecidableEq, Repr

/-- The bytes before the data in the shortest push form for a length (R109, R111). -/
def shortestPushHeader (len : Nat) : Bytes :=
  if 1 ≤ len ∧ len ≤ 0x4B then [BitVec.ofNat 8 len]
  else if len < 2 ^ 8 then 0x4C :: leBytes 1 len
  else if len < 2 ^ 16 then 0x4D :: leBytes 2 len
  else 0x4E :: leBytes 4 len

/-- The bytes of a script word (R111); a command of the block stands in no script. -/
def scriptWordBytes : ScriptWord → Bytes
  | .command i =>
    match encode i with
    | .script bytes => bytes
    | .command _ => []
  | .data bytes => shortestPushHeader bytes.length ++ bytes

/-- A script body assembled (R111). -/
def assembleScript (ws : List ScriptWord) : Bytes := ws.flatMap scriptWordBytes

end Sys2Proof.Machine
end

