-- ==== Sys2Proof/Tests/Slice0.lean ====
section
/-! SUPPORT. The model's own tests: ill-formed terms refused, every constructor's decoding by a word written out from the
spec's encoding of it, one-step checks against the spec's examples, and a witness for the hypotheses of each statement. -/

namespace Sys2Proof.Machine

set_option Elab.async false

/-! ## Small states -/

/-- The state right after reset with B1 and B2 given. -/
def regsTest (a b : Nat) : State :=
  { State.reset with b := (State.reset.b.set 1 (BitVec.ofNat 256 a)).set 2 (BitVec.ofNat 256 b) }

/-- One step of the machine with command word `w` accepted: the state after it. -/
def afterTest (s : State) (w : Word) : Option State :=
  match step (acceptCommand s w) with
  | .next t => some t
  | _ => none

/-- B3 and the STATUS word after one step of a command on B1 = `a` and B2 = `b`. -/
def fieldTest (a b : Nat) (w : Word) : Option (Nat × Nat) :=
  (afterTest (regsTest a b) w).map fun t => (readB t 3, (statusWord t.status).toNat)

/-- The state with P0 and P1 given by their registers. -/
def pointsTest (x0 y0 x1 y1 : Nat) (inf : Byte) : State :=
  { State.reset with
    px := (State.reset.px.set 0 (BitVec.ofNat 256 x0)).set 1 (BitVec.ofNat 256 x1),
    py := (State.reset.py.set 0 (BitVec.ofNat 256 y0)).set 1 (BitVec.ofNat 256 y1), pinf := inf }

/-- P2 and the STATUS word after one step. -/
def pointTest (s : State) (w : Word) : Option (Point × Nat) :=
  (afterTest s w).map fun t => (readPoint t 2, (statusWord t.status).toNat)

/-- A SCRIPT in progress with the stack and the program given. -/
def scriptTest (prog : List Instr) (stack : List Bytes) (chkfail : Bool) : State :=
  { acceptCommand State.reset 0x00000051 with
    vm := some { prog := prog, ip := 0, stack := stack, chkfail := chkfail, tx := emptyTx } }

/-- The stack after one script command, or VMSTAT where the evaluation ended. -/
def stackTest (i : Instr) (stack : List Bytes) : Option (List Bytes ⊕ Byte) :=
  match step (scriptTest [i] stack false) with
  | .next t => match t.vm with
    | some v => some (.inl v.stack)
    | none => some (.inr t.vmstat)
  | _ => none

/-- TXBUF with a transaction of one input with an empty script_sig and no output, its other bytes zero. -/
def txTest : State := { State.reset with mem := [(0x1004, 0x01)], txlen := 51 }

/-! ## WellFormed: an ill-formed term for each check -/

theorem test_ldk_selector_refused : (Instr.ldk 1 7).wf = false := by decide

theorem test_esign_same_destination_refused : (Instr.esign 2 2 0 1).wf = false := by decide

theorem test_short_push_refused_0 :
    ∀ i ∈ ([
      .pushBytes1 [], .pushBytes2 [], .pushBytes3 [], .pushBytes4 [], .pushBytes5 [], .pushBytes6 [],
      .pushBytes7 [], .pushBytes8 [], .pushBytes9 [], .pushBytes10 [], .pushBytes11 [], .pushBytes12 [],
      .pushBytes13 [], .pushBytes14 [], .pushBytes15 [], .pushBytes16 [], .pushBytes17 [], .pushBytes18 [],
      .pushBytes19 [], .pushBytes20 [], .pushBytes21 [], .pushBytes22 [], .pushBytes23 [], .pushBytes24 [],
      .pushBytes25 []] : List Instr), i.wf = false := by decide

theorem test_short_push_refused_1 :
    ∀ i ∈ ([
      .pushBytes26 [], .pushBytes27 [], .pushBytes28 [], .pushBytes29 [], .pushBytes30 [], .pushBytes31 [],
      .pushBytes32 [], .pushBytes33 [], .pushBytes34 [], .pushBytes35 [], .pushBytes36 [], .pushBytes37 [],
      .pushBytes38 [], .pushBytes39 [], .pushBytes40 [], .pushBytes41 [], .pushBytes42 [], .pushBytes43 [],
      .pushBytes44 [], .pushBytes45 [], .pushBytes46 [], .pushBytes47 [], .pushBytes48 [], .pushBytes49 [],
      .pushBytes50 []] : List Instr), i.wf = false := by decide

theorem test_short_push_refused_2 :
    ∀ i ∈ ([
      .pushBytes51 [], .pushBytes52 [], .pushBytes53 [], .pushBytes54 [], .pushBytes55 [], .pushBytes56 [],
      .pushBytes57 [], .pushBytes58 [], .pushBytes59 [], .pushBytes60 [], .pushBytes61 [], .pushBytes62 [],
      .pushBytes63 [], .pushBytes64 [], .pushBytes65 [], .pushBytes66 [], .pushBytes67 [], .pushBytes68 [],
      .pushBytes69 [], .pushBytes70 [], .pushBytes71 [], .pushBytes72 [], .pushBytes73 [], .pushBytes74 [],
      .pushBytes75 []] : List Instr), i.wf = false := by decide

theorem test_long_pushdata1_refused : (Instr.opPushData1 (List.replicate 256 0)).wf = false := by decide +kernel

theorem test_long_pushdata2_refused (d : Bytes) (h : d.length = 65536) : (Instr.opPushData2 d).wf = false := by
  simp [Instr.wf, h]

theorem test_long_pushdata4_refused (d : Bytes) (h : d.length = 4294967296) : (Instr.opPushData4 d).wf = false := by
  simp [Instr.wf, h]

/-! ## Decoding: words from the encodings of 30_encoding.md R100, R101 (bits 23:20 RC, 19:16 RB, 15:12 RA, 11:8 RD, 7:0 OP) -/

theorem test_decode_commands_0 :
    ∀ p ∈ ([
      (0x00000000, .nop),
      (0x00002101, .mov 1 2),
      (0x00006102, .ldk 1 6),
      (0x00032110, .fadd 1 2 3),
      (0x00032111, .fsub 1 2 3),
      (0x000DEF12, .fmul 15 14 13),
      (0x00002113, .finv 1 2),
      (0x00032114, .fpow 1 2 3),
      (0x00002115, .fsqrt 1 2),
      (0x00032016, .feq 2 3)] : List (Word × Instr)), decodeCommand p.1 = .ok p.2 ∧ encode p.2 = .command p.1 := by
  decide

theorem test_decode_commands_1 :
    ∀ p ∈ ([
      (0x00002117, .fred 1 2),
      (0x00032118, .nadd 1 2 3),
      (0x00032119, .nsub 1 2 3),
      (0x0003211A, .nmul 1 2 3),
      (0x0000211B, .ninv 1 2),
      (0x0003211C, .npow 1 2 3),
      (0x0003201E, .neq 2 3),
      (0x0000211F, .nred 1 2),
      (0x00032120, .padd 1 2 3),
      (0x00006721, .pdbl 7 6)] : List (Word × Instr)), decodeCommand p.1 = .ok p.2 ∧ encode p.2 = .command p.1 := by
  decide

theorem test_decode_commands_2 :
    ∀ p ∈ ([
      (0x000F2122, .pmul 1 2 15),
      (0x00000323, .pldg 3),
      (0x00002024, .pchk 2),
      (0x00002125, .pmov 1 2),
      (0x00000030, .shainit),
      (0x00000031, .shacomp),
      (0x00432140, .esign 1 4 2 3),
      (0x00432141, .everify 1 2 3 4),
      (0x00000950, .sighash 9),
      (0x00000051, .script)] : List (Word × Instr)), decodeCommand p.1 = .ok p.2 ∧ encode p.2 = .command p.1 := by
  decide

/-! ## Decoding: script commands from R109 and R110, each with what follows it -/

theorem test_decode_script_0 :
    ∀ p ∈ ([
      ([0x00], .op0),
      (0x01 :: List.replicate 1 0xEE, .pushBytes1 (List.replicate 1 0xEE)),
      (0x02 :: List.replicate 2 0xEE, .pushBytes2 (List.replicate 2 0xEE)),
      (0x03 :: List.replicate 3 0xEE, .pushBytes3 (List.replicate 3 0xEE)),
      (0x04 :: List.replicate 4 0xEE, .pushBytes4 (List.replicate 4 0xEE)),
      (0x05 :: List.replicate 5 0xEE, .pushBytes5 (List.replicate 5 0xEE)),
      (0x06 :: List.replicate 6 0xEE, .pushBytes6 (List.replicate 6 0xEE)),
      (0x07 :: List.replicate 7 0xEE, .pushBytes7 (List.replicate 7 0xEE)),
      (0x08 :: List.replicate 8 0xEE, .pushBytes8 (List.replicate 8 0xEE)),
      (0x09 :: List.replicate 9 0xEE, .pushBytes9 (List.replicate 9 0xEE)),
      (0x0A :: List.replicate 10 0xEE, .pushBytes10 (List.replicate 10 0xEE)),
      (0x0B :: List.replicate 11 0xEE, .pushBytes11 (List.replicate 11 0xEE)),
      (0x0C :: List.replicate 12 0xEE, .pushBytes12 (List.replicate 12 0xEE)),
      (0x0D :: List.replicate 13 0xEE, .pushBytes13 (List.replicate 13 0xEE)),
      (0x0E :: List.replicate 14 0xEE, .pushBytes14 (List.replicate 14 0xEE)),
      (0x0F :: List.replicate 15 0xEE, .pushBytes15 (List.replicate 15 0xEE))] : List (Bytes × Instr)),
      decodeScript (p.1 ++ [0x51]) = .ok (p.2, [0x51]) := by
  decide +kernel

theorem test_decode_script_1 :
    ∀ p ∈ ([
      (0x10 :: List.replicate 16 0xEE, .pushBytes16 (List.replicate 16 0xEE)),
      (0x11 :: List.replicate 17 0xEE, .pushBytes17 (List.replicate 17 0xEE)),
      (0x12 :: List.replicate 18 0xEE, .pushBytes18 (List.replicate 18 0xEE)),
      (0x13 :: List.replicate 19 0xEE, .pushBytes19 (List.replicate 19 0xEE)),
      (0x14 :: List.replicate 20 0xEE, .pushBytes20 (List.replicate 20 0xEE)),
      (0x15 :: List.replicate 21 0xEE, .pushBytes21 (List.replicate 21 0xEE)),
      (0x16 :: List.replicate 22 0xEE, .pushBytes22 (List.replicate 22 0xEE)),
      (0x17 :: List.replicate 23 0xEE, .pushBytes23 (List.replicate 23 0xEE)),
      (0x18 :: List.replicate 24 0xEE, .pushBytes24 (List.replicate 24 0xEE)),
      (0x19 :: List.replicate 25 0xEE, .pushBytes25 (List.replicate 25 0xEE)),
      (0x1A :: List.replicate 26 0xEE, .pushBytes26 (List.replicate 26 0xEE)),
      (0x1B :: List.replicate 27 0xEE, .pushBytes27 (List.replicate 27 0xEE)),
      (0x1C :: List.replicate 28 0xEE, .pushBytes28 (List.replicate 28 0xEE)),
      (0x1D :: List.replicate 29 0xEE, .pushBytes29 (List.replicate 29 0xEE)),
      (0x1E :: List.replicate 30 0xEE, .pushBytes30 (List.replicate 30 0xEE)),
      (0x1F :: List.replicate 31 0xEE, .pushBytes31 (List.replicate 31 0xEE))] : List (Bytes × Instr)),
      decodeScript (p.1 ++ [0x51]) = .ok (p.2, [0x51]) := by
  decide +kernel

theorem test_decode_script_2 :
    ∀ p ∈ ([
      (0x20 :: List.replicate 32 0xEE, .pushBytes32 (List.replicate 32 0xEE)),
      (0x21 :: List.replicate 33 0xEE, .pushBytes33 (List.replicate 33 0xEE)),
      (0x22 :: List.replicate 34 0xEE, .pushBytes34 (List.replicate 34 0xEE)),
      (0x23 :: List.replicate 35 0xEE, .pushBytes35 (List.replicate 35 0xEE)),
      (0x24 :: List.replicate 36 0xEE, .pushBytes36 (List.replicate 36 0xEE)),
      (0x25 :: List.replicate 37 0xEE, .pushBytes37 (List.replicate 37 0xEE)),
      (0x26 :: List.replicate 38 0xEE, .pushBytes38 (List.replicate 38 0xEE)),
      (0x27 :: List.replicate 39 0xEE, .pushBytes39 (List.replicate 39 0xEE)),
      (0x28 :: List.replicate 40 0xEE, .pushBytes40 (List.replicate 40 0xEE)),
      (0x29 :: List.replicate 41 0xEE, .pushBytes41 (List.replicate 41 0xEE)),
      (0x2A :: List.replicate 42 0xEE, .pushBytes42 (List.replicate 42 0xEE)),
      (0x2B :: List.replicate 43 0xEE, .pushBytes43 (List.replicate 43 0xEE)),
      (0x2C :: List.replicate 44 0xEE, .pushBytes44 (List.replicate 44 0xEE)),
      (0x2D :: List.replicate 45 0xEE, .pushBytes45 (List.replicate 45 0xEE)),
      (0x2E :: List.replicate 46 0xEE, .pushBytes46 (List.replicate 46 0xEE)),
      (0x2F :: List.replicate 47 0xEE, .pushBytes47 (List.replicate 47 0xEE))] : List (Bytes × Instr)),
      decodeScript (p.1 ++ [0x51]) = .ok (p.2, [0x51]) := by
  decide +kernel

theorem test_decode_script_3 :
    ∀ p ∈ ([
      (0x30 :: List.replicate 48 0xEE, .pushBytes48 (List.replicate 48 0xEE)),
      (0x31 :: List.replicate 49 0xEE, .pushBytes49 (List.replicate 49 0xEE)),
      (0x32 :: List.replicate 50 0xEE, .pushBytes50 (List.replicate 50 0xEE)),
      (0x33 :: List.replicate 51 0xEE, .pushBytes51 (List.replicate 51 0xEE)),
      (0x34 :: List.replicate 52 0xEE, .pushBytes52 (List.replicate 52 0xEE)),
      (0x35 :: List.replicate 53 0xEE, .pushBytes53 (List.replicate 53 0xEE)),
      (0x36 :: List.replicate 54 0xEE, .pushBytes54 (List.replicate 54 0xEE)),
      (0x37 :: List.replicate 55 0xEE, .pushBytes55 (List.replicate 55 0xEE)),
      (0x38 :: List.replicate 56 0xEE, .pushBytes56 (List.replicate 56 0xEE)),
      (0x39 :: List.replicate 57 0xEE, .pushBytes57 (List.replicate 57 0xEE)),
      (0x3A :: List.replicate 58 0xEE, .pushBytes58 (List.replicate 58 0xEE)),
      (0x3B :: List.replicate 59 0xEE, .pushBytes59 (List.replicate 59 0xEE)),
      (0x3C :: List.replicate 60 0xEE, .pushBytes60 (List.replicate 60 0xEE)),
      (0x3D :: List.replicate 61 0xEE, .pushBytes61 (List.replicate 61 0xEE)),
      (0x3E :: List.replicate 62 0xEE, .pushBytes62 (List.replicate 62 0xEE)),
      (0x3F :: List.replicate 63 0xEE, .pushBytes63 (List.replicate 63 0xEE))] : List (Bytes × Instr)),
      decodeScript (p.1 ++ [0x51]) = .ok (p.2, [0x51]) := by
  decide +kernel

theorem test_decode_script_4 :
    ∀ p ∈ ([
      (0x40 :: List.replicate 64 0xEE, .pushBytes64 (List.replicate 64 0xEE)),
      (0x41 :: List.replicate 65 0xEE, .pushBytes65 (List.replicate 65 0xEE)),
      (0x42 :: List.replicate 66 0xEE, .pushBytes66 (List.replicate 66 0xEE)),
      (0x43 :: List.replicate 67 0xEE, .pushBytes67 (List.replicate 67 0xEE)),
      (0x44 :: List.replicate 68 0xEE, .pushBytes68 (List.replicate 68 0xEE)),
      (0x45 :: List.replicate 69 0xEE, .pushBytes69 (List.replicate 69 0xEE)),
      (0x46 :: List.replicate 70 0xEE, .pushBytes70 (List.replicate 70 0xEE)),
      (0x47 :: List.replicate 71 0xEE, .pushBytes71 (List.replicate 71 0xEE)),
      (0x48 :: List.replicate 72 0xEE, .pushBytes72 (List.replicate 72 0xEE)),
      (0x49 :: List.replicate 73 0xEE, .pushBytes73 (List.replicate 73 0xEE)),
      (0x4A :: List.replicate 74 0xEE, .pushBytes74 (List.replicate 74 0xEE)),
      (0x4B :: List.replicate 75 0xEE, .pushBytes75 (List.replicate 75 0xEE)),
      ([0x4C, 0x02, 0xAB, 0xCD], .opPushData1 [0xAB, 0xCD]),
      ([0x4D, 0x02, 0x00, 0xAB, 0xCD], .opPushData2 [0xAB, 0xCD]),
      ([0x4E, 0x02, 0x00, 0x00, 0x00, 0xAB, 0xCD], .opPushData4 [0xAB, 0xCD]),
      ([0x4F], .unsupported4F)] : List (Bytes × Instr)),
      decodeScript (p.1 ++ [0x51]) = .ok (p.2, [0x51]) := by
  decide +kernel

theorem test_decode_script_5 :
    ∀ p ∈ ([
      ([0x50], .unsupported50),
      ([0x51], .op1),
      ([0x52], .op2),
      ([0x53], .op3),
      ([0x54], .op4),
      ([0x55], .op5),
      ([0x56], .op6),
      ([0x57], .op7),
      ([0x58], .op8),
      ([0x59], .op9),
      ([0x5A], .op10),
      ([0x5B], .op11),
      ([0x5C], .op12),
      ([0x5D], .op13),
      ([0x5E], .op14),
      ([0x5F], .op15)] : List (Bytes × Instr)),
      decodeScript (p.1 ++ [0x51]) = .ok (p.2, [0x51]) := by
  decide +kernel

theorem test_decode_script_6 :
    ∀ p ∈ ([
      ([0x60], .op16),
      ([0x61], .unsupported61),
      ([0x62], .unsupported62),
      ([0x63], .unsupported63),
      ([0x64], .unsupported64),
      ([0x65], .unsupported65),
      ([0x66], .unsupported66),
      ([0x67], .unsupported67),
      ([0x68], .unsupported68),
      ([0x69], .unsupported69),
      ([0x6A], .unsupported6A),
      ([0x6B], .unsupported6B),
      ([0x6C], .unsupported6C),
      ([0x6D], .unsupported6D),
      ([0x6E], .unsupported6E),
      ([0x6F], .unsupported6F)] : List (Bytes × Instr)),
      decodeScript (p.1 ++ [0x51]) = .ok (p.2, [0x51]) := by
  decide +kernel

theorem test_decode_script_7 :
    ∀ p ∈ ([
      ([0x70], .unsupported70),
      ([0x71], .unsupported71),
      ([0x72], .unsupported72),
      ([0x73], .unsupported73),
      ([0x74], .unsupported74),
      ([0x75], .unsupported75),
      ([0x76], .opDup),
      ([0x77], .unsupported77),
      ([0x78], .unsupported78),
      ([0x79], .unsupported79),
      ([0x7A], .unsupported7A),
      ([0x7B], .unsupported7B),
      ([0x7C], .unsupported7C),
      ([0x7D], .unsupported7D),
      ([0x7E], .unsupported7E),
      ([0x7F], .unsupported7F)] : List (Bytes × Instr)),
      decodeScript (p.1 ++ [0x51]) = .ok (p.2, [0x51]) := by
  decide +kernel

theorem test_decode_script_8 :
    ∀ p ∈ ([
      ([0x80], .unsupported80),
      ([0x81], .unsupported81),
      ([0x82], .unsupported82),
      ([0x83], .unsupported83),
      ([0x84], .unsupported84),
      ([0x85], .unsupported85),
      ([0x86], .unsupported86),
      ([0x87], .unsupported87),
      ([0x88], .opEqualVerify),
      ([0x89], .unsupported89),
      ([0x8A], .unsupported8A),
      ([0x8B], .unsupported8B),
      ([0x8C], .unsupported8C),
      ([0x8D], .unsupported8D),
      ([0x8E], .unsupported8E),
      ([0x8F], .unsupported8F)] : List (Bytes × Instr)),
      decodeScript (p.1 ++ [0x51]) = .ok (p.2, [0x51]) := by
  decide +kernel

theorem test_decode_script_9 :
    ∀ p ∈ ([
      ([0x90], .unsupported90),
      ([0x91], .unsupported91),
      ([0x92], .unsupported92),
      ([0x93], .unsupported93),
      ([0x94], .unsupported94),
      ([0x95], .unsupported95),
      ([0x96], .unsupported96),
      ([0x97], .unsupported97),
      ([0x98], .unsupported98),
      ([0x99], .unsupported99),
      ([0x9A], .unsupported9A),
      ([0x9B], .unsupported9B),
      ([0x9C], .unsupported9C),
      ([0x9D], .unsupported9D),
      ([0x9E], .unsupported9E),
      ([0x9F], .unsupported9F)] : List (Bytes × Instr)),
      decodeScript (p.1 ++ [0x51]) = .ok (p.2, [0x51]) := by
  decide +kernel

theorem test_decode_script_A :
    ∀ p ∈ ([
      ([0xA0], .unsupportedA0),
      ([0xA1], .unsupportedA1),
      ([0xA2], .unsupportedA2),
      ([0xA3], .unsupportedA3),
      ([0xA4], .unsupportedA4),
      ([0xA5], .unsupportedA5),
      ([0xA6], .unsupportedA6),
      ([0xA7], .unsupportedA7),
      ([0xA8], .unsupportedA8),
      ([0xA9], .opHash160),
      ([0xAA], .unsupportedAA),
      ([0xAB], .unsupportedAB),
      ([0xAC], .opCheckSig),
      ([0xAD], .unsupportedAD),
      ([0xAE], .unsupportedAE),
      ([0xAF], .unsupportedAF)] : List (Bytes × Instr)),
      decodeScript (p.1 ++ [0x51]) = .ok (p.2, [0x51]) := by
  decide +kernel

theorem test_decode_script_B :
    ∀ p ∈ ([
      ([0xB0], .unsupportedB0),
      ([0xB1], .unsupportedB1),
      ([0xB2], .unsupportedB2),
      ([0xB3], .unsupportedB3),
      ([0xB4], .unsupportedB4),
      ([0xB5], .unsupportedB5),
      ([0xB6], .unsupportedB6),
      ([0xB7], .unsupportedB7),
      ([0xB8], .unsupportedB8),
      ([0xB9], .unsupportedB9),
      ([0xBA], .unsupportedBA),
      ([0xBB], .unsupportedBB),
      ([0xBC], .unsupportedBC),
      ([0xBD], .unsupportedBD),
      ([0xBE], .unsupportedBE),
      ([0xBF], .unsupportedBF)] : List (Bytes × Instr)),
      decodeScript (p.1 ++ [0x51]) = .ok (p.2, [0x51]) := by
  decide +kernel

theorem test_decode_script_C :
    ∀ p ∈ ([
      ([0xC0], .unsupportedC0),
      ([0xC1], .unsupportedC1),
      ([0xC2], .unsupportedC2),
      ([0xC3], .unsupportedC3),
      ([0xC4], .unsupportedC4),
      ([0xC5], .unsupportedC5),
      ([0xC6], .unsupportedC6),
      ([0xC7], .unsupportedC7),
      ([0xC8], .unsupportedC8),
      ([0xC9], .unsupportedC9),
      ([0xCA], .unsupportedCA),
      ([0xCB], .unsupportedCB),
      ([0xCC], .unsupportedCC),
      ([0xCD], .unsupportedCD),
      ([0xCE], .unsupportedCE),
      ([0xCF], .unsupportedCF)] : List (Bytes × Instr)),
      decodeScript (p.1 ++ [0x51]) = .ok (p.2, [0x51]) := by
  decide +kernel

theorem test_decode_script_D :
    ∀ p ∈ ([
      ([0xD0], .unsupportedD0),
      ([0xD1], .unsupportedD1),
      ([0xD2], .unsupportedD2),
      ([0xD3], .unsupportedD3),
      ([0xD4], .unsupportedD4),
      ([0xD5], .unsupportedD5),
      ([0xD6], .unsupportedD6),
      ([0xD7], .unsupportedD7),
      ([0xD8], .unsupportedD8),
      ([0xD9], .unsupportedD9),
      ([0xDA], .unsupportedDA),
      ([0xDB], .unsupportedDB),
      ([0xDC], .unsupportedDC),
      ([0xDD], .unsupportedDD),
      ([0xDE], .unsupportedDE),
      ([0xDF], .unsupportedDF)] : List (Bytes × Instr)),
      decodeScript (p.1 ++ [0x51]) = .ok (p.2, [0x51]) := by
  decide +kernel

theorem test_decode_script_E :
    ∀ p ∈ ([
      ([0xE0], .unsupportedE0),
      ([0xE1], .unsupportedE1),
      ([0xE2], .unsupportedE2),
      ([0xE3], .unsupportedE3),
      ([0xE4], .unsupportedE4),
      ([0xE5], .unsupportedE5),
      ([0xE6], .unsupportedE6),
      ([0xE7], .unsupportedE7),
      ([0xE8], .unsupportedE8),
      ([0xE9], .unsupportedE9),
      ([0xEA], .unsupportedEA),
      ([0xEB], .unsupportedEB),
      ([0xEC], .unsupportedEC),
      ([0xED], .unsupportedED),
      ([0xEE], .unsupportedEE),
      ([0xEF], .unsupportedEF)] : List (Bytes × Instr)),
      decodeScript (p.1 ++ [0x51]) = .ok (p.2, [0x51]) := by
  decide +kernel

theorem test_decode_script_F :
    ∀ p ∈ ([
      ([0xF0], .unsupportedF0),
      ([0xF1], .unsupportedF1),
      ([0xF2], .unsupportedF2),
      ([0xF3], .unsupportedF3),
      ([0xF4], .unsupportedF4),
      ([0xF5], .unsupportedF5),
      ([0xF6], .unsupportedF6),
      ([0xF7], .unsupportedF7),
      ([0xF8], .unsupportedF8),
      ([0xF9], .unsupportedF9),
      ([0xFA], .unsupportedFA),
      ([0xFB], .unsupportedFB),
      ([0xFC], .unsupportedFC),
      ([0xFD], .unsupportedFD),
      ([0xFE], .unsupportedFE),
      ([0xFF], .unsupportedFF)] : List (Bytes × Instr)),
      decodeScript (p.1 ++ [0x51]) = .ok (p.2, [0x51]) := by
  decide +kernel

/-- The rejections of R261, by name. -/
theorem test_script_rejections :
    decodeScript [] = .error .endOfScript ∧ decodeScript [0x4D, 0x01] = .error .truncatedLength ∧
    decodeScript [0x02, 0xAB] = .error .truncatedPush := by decide

/-- The rejections of R106, by name. -/
theorem test_command_rejections :
    decodeCommand 0x01000000 = .error .rsvNonZero ∧ decodeCommand 0x0000001D = .error .reservedOpcode ∧
    decodeCommand 0x00100010 = .error .sbzNonZero ∧ decodeCommand 0x00000823 = .error .pointIndexBit3 ∧
    decodeCommand 0x00007302 = .error .ldkSelector ∧ decodeCommand 0x00000040 = .error .esignSameDest := by decide

/-! ## One step against the spec's examples (95_test_vectors.md L2.3 and the rules named) -/

/-- R167: (p − 1) + 1 = 0; STATUS reads 2. -/
theorem test_fadd_wraps : fieldTest (primeP - 1) 1 0x00021310 = some (0, 2) := by decide +kernel

/-- R163: p itself is out of range; ECODE 0x02 with ERR and DONE. -/
theorem test_fadd_range : fieldTest primeP 0 0x00021310 = some (0, 0x206) := by decide +kernel

/-- R168: 1 − 2. -/
theorem test_fsub_negative :
    fieldTest 1 2 0x00021311 =
      some (0xFFFFFFFFFFFFFFFFFFFFFFFFFFFFFFFFFFFFFFFFFFFFFFFFFFFFFFFEFFFFFC2E, 2) := by decide +kernel

/-- R169: Gx · Gy. -/
theorem test_fmul_product :
    fieldTest genX genY 0x00021312 =
      some (0xFD3DC529C6EB60FB9D166034CF3C1A5A72324AA9DFD3428A56D7E1CE0179FD9B, 2) := by decide +kernel

/-- R170: 2⁻¹. -/
theorem test_finv_two :
    fieldTest 2 0 0x00001313 =
      some (0x7FFFFFFFFFFFFFFFFFFFFFFFFFFFFFFFFFFFFFFFFFFFFFFFFFFFFFFF7FFFFE18, 2) := by decide +kernel

/-- R170: 0 has no inverse. -/
theorem test_finv_zero : fieldTest 0 0 0x00001313 = some (0, 0x306) := by decide +kernel

/-- R171: 2^255. -/
theorem test_fpow_two : fieldTest 2 255 0x00021314 = some (2 ^ 255, 2) := by decide +kernel

/-- R171: 0^0 = 1. -/
theorem test_fpow_zero : fieldTest 0 0 0x00021314 = some (1, 2) := by decide +kernel

/-- R172: a root of 2, RES = 1. -/
theorem test_fsqrt_two :
    fieldTest 2 0 0x00001315 =
      some (0x210C790573632359B1EDB4302C117D8A132654692C3FEEB7DE3A86AC3F3B53F7, 10) := by decide +kernel

/-- R172: −1 is no residue; the candidate 1 is written all the same. -/
theorem test_fsqrt_nonresidue : fieldTest (primeP - 1) 0 0x00001315 = some (1, 2) := by decide +kernel

/-- R173: 7 = 7, RES = 1; nothing written. -/
theorem test_feq_equal : fieldTest 7 7 0x00021016 = some (0, 10) := by decide +kernel

/-- R174: 2^256 − 1. -/
theorem test_fred_top : fieldTest (2 ^ 256 - 1) 0 0x00001317 = some (0x1000003D0, 2) := by decide +kernel

/-- R175: (n − 1) + 2 = 1. -/
theorem test_nadd_wraps : fieldTest (orderN - 1) 2 0x00021318 = some (1, 2) := by decide +kernel

/-- R175: p − 1 is a field element but no scalar. -/
theorem test_nadd_range : fieldTest (primeP - 1) 0 0x00021318 = some (0, 0x206) := by decide +kernel

/-- R176: 0 − 1 = n − 1. -/
theorem test_nsub_negative : fieldTest 0 1 0x00021319 = some (orderN - 1, 2) := by decide +kernel

/-- 2 · (n + 1)/2 = 1 (R177). -/
theorem test_nmul_half : fieldTest 2 ((orderN + 1) / 2) 0x0002131A = some (1, 2) := by decide +kernel

/-- R178: 2⁻¹ mod n. -/
theorem test_ninv_two :
    fieldTest 2 0 0x0000131B =
      some (0x7FFFFFFFFFFFFFFFFFFFFFFFFFFFFFFF5D576E7357A4501DDFE92F46681B20A1, 2) := by decide +kernel

/-- Fermat mod n: 3^(n−1) = 1 (R179). -/
theorem test_npow_fermat : fieldTest 3 (orderN - 1) 0x0002131C = some (1, 2) := by decide +kernel

/-- R180: n − 1 = n − 1. -/
theorem test_neq_equal : fieldTest (orderN - 1) (orderN - 1) 0x0002101E = some (0, 10) := by decide +kernel

/-- R181: p mod n. -/
theorem test_nred_p :
    fieldTest primeP 0 0x0000131F = some (0x14551231950B75FC4402DA1722FC9BAEE, 2) := by decide +kernel

/-- R165: a value above p moves as it is. -/
theorem test_mov_any : fieldTest (primeP + 5) 0 0x00001301 = some (primeP + 5, 2) := by decide +kernel

/-- R166: constant 3 is n, as a plain integer. -/
theorem test_ldk_n :
    fieldTest 0 0 0x00003302 =
      some (0xFFFFFFFFFFFFFFFFFFFFFFFFFFFFFFFEBAAEDCE6AF48A03BBFD25E8CD0364141, 2) := by decide +kernel

/-- R164: NOP leaves STATUS at 2. -/
theorem test_nop_status : fieldTest 0 0 0x00000000 = some (0, 2) := by decide +kernel

/-- R105: 0x1D is illegal, ECODE 0x01. -/
theorem test_reserved_opcode_faults : fieldTest 0 0 0x0000001D = some (0, 0x106) := by decide +kernel

/-- R205: 2G. -/
theorem test_pdbl_generator :
    pointTest (pointsTest genX genY 0 0 0) 0x00000221 =
      some (.affine 0xC6047F9441ED7D6D3045406E95C07CD85C778E4B8CEF3CA7ABAC09B95C709EE5
        0x1AE168FEA63DC339A3C58419466CEAEEF7F632653266D0E1236431A950CFE52A, 2) := by decide +kernel

/-- R204: G + 2G = 3G. -/
theorem test_padd_three :
    pointTest (pointsTest genX genY 0xC6047F9441ED7D6D3045406E95C07CD85C778E4B8CEF3CA7ABAC09B95C709EE5
        0x1AE168FEA63DC339A3C58419466CEAEEF7F632653266D0E1236431A950CFE52A 0) 0x00010220 =
      some (.affine 0xF9308A019258C31049344F85F89D5229B531C845836F99B08601F113BCE036F9
        0x388F7B0F632DE8140FE337E62A37F3566500A99934C2231B6CB9FD7584B8E672, 2) := by decide +kernel

/-- R203: G + (−G) = O. -/
theorem test_padd_opposite :
    pointTest (pointsTest genX genY genX (primeP - genY) 0) 0x00010220 = some (.infinity, 2) := by decide +kernel

/-- R206 with the scalar 3 in B3 (R204's 3G). -/
theorem test_pmul_three :
    pointTest { pointsTest genX genY 0 0 0 with b := State.reset.b.set 3 3 } 0x00030222 =
      some (.affine 0xF9308A019258C31049344F85F89D5229B531C845836F99B08601F113BCE036F9
        0x388F7B0F632DE8140FE337E62A37F3566500A99934C2231B6CB9FD7584B8E672, 2) := by decide +kernel

/-- R207. -/
theorem test_pldg : pointTest State.reset 0x00000223 = some (.affine genX genY, 2) := by decide +kernel

/-- R208: (1, 1) is not on the curve, which is no fault. -/
theorem test_pchk_off_curve : pointTest (pointsTest 1 1 0 0 0) 0x00000024 = some (.affine 0 0, 2) := by
  decide +kernel

/-- R209: O copies with its coordinates' bits. -/
theorem test_pmov_infinity :
    (afterTest (pointsTest 5 6 0 0 0x01) 0x00000225).map (fun t => (t.px[2], t.py[2], t.pinf)) =
      some (5, 6, 0x05) := by decide +kernel

/-- R132: SH0 after SHAINIT. -/
theorem test_shainit : (afterTest State.reset 0x00000030).map (fun t => t.sh[0]) = some 0x6a09e667 := by
  decide +kernel

/-- R133: the block of "abc". -/
theorem test_shacomp_abc :
    (afterTest { State.reset with
        sh := initialHash, sw := (State.reset.sw.set 0 0x61626380).set 15 0x00000018 } 0x00000031).map (·.sh) =
      some #v[0xba7816bf, 0x8f01cfea, 0x414140de, 0x5dae2223, 0xb00361a3, 0x96177a9c, 0xb410ff61, 0xf20015ad] := by
  decide +kernel

/-- R232: a key of n faults EKEY (95_test_vectors.md L2.5). -/
theorem test_esign_key : fieldTest orderN 5 0x00421340 = some (0, 0x506) := by decide +kernel

/-- R234 by hand: with Q = G and r = s = z = x(2G), u1 = u2 = 1 and X = 2G, so the signature verifies. -/
theorem test_everify_accepts :
    verify pointG 0xC6047F9441ED7D6D3045406E95C07CD85C778E4B8CEF3CA7ABAC09B95C709EE5
      0xC6047F9441ED7D6D3045406E95C07CD85C778E4B8CEF3CA7ABAC09B95C709EE5
      0xC6047F9441ED7D6D3045406E95C07CD85C778E4B8CEF3CA7ABAC09B95C709EE5 = true := by decide +kernel

/-- R332: EVERIFY with PINF = 1 faults EKEY. -/
theorem test_everify_infinity :
    (afterTest (pointsTest 0 0 0 0 0x01) 0x00321041).map (fun t => (statusWord t.status).toNat) = some 0x506 := by
  decide +kernel

/-- R308: TXLEN = 0 raises EPARSE. -/
theorem test_sighash_empty :
    (afterTest State.reset 0x00000350).map (fun t => (statusWord t.status).toNat) = some 0x606 := by decide +kernel

/-- R308: TXLEN above 4096 raises ELEN. -/
theorem test_sighash_length :
    (afterTest { State.reset with txlen := 4097 } 0x00000350).map (fun t => (statusWord t.status).toNat) =
      some 0x806 := by decide +kernel

/-- R288, R283: two empty scripts end with an empty stack, reason 0x02. -/
theorem test_script_empty :
    (match run 2 (acceptCommand txTest 0x00000051) with
      | .next t => some ((statusWord t.status).toNat, t.vmstat)
      | _ => none) = some (2, 0x02) := by decide +kernel

/-- R269, R271: what a push and OP_16 push. -/
theorem test_pushes :
    stackTest (.pushBytes2 [0xAB, 0xCD]) [[0x07]] = some (.inl [[0xAB, 0xCD], [0x07]]) ∧
    stackTest .op16 [] = some (.inl [[0x10]]) ∧ stackTest .op0 [] = some (.inl [[]]) := by decide +kernel

/-- R272, R274: the examples. -/
theorem test_stack_opcodes :
    stackTest .opDup [[0xAB]] = some (.inl [[0xAB], [0xAB]]) ∧ stackTest .opDup [] = some (.inr 0x04) ∧
    stackTest .opEqualVerify [[0xAB], [0xAB]] = some (.inl []) ∧
    stackTest .opEqualVerify [[0xAC], [0xAB]] = some (.inr 0x08) := by decide +kernel

/-- R273: HASH160 of the empty string. -/
theorem test_hash160_empty :
    stackTest .opHash160 [[]] = some (.inl [beBytes 20 0xb472a266d0bd89c13706a4132ccfb16f7c3b9fcb]) := by
  decide +kernel

/-- R275, R276: an empty signature fails with 0x09, an unsupported opcode with 0x05. -/
theorem test_checksig_and_unsupported :
    stackTest .opCheckSig [[0x02], []] = some (.inr 0x09) ∧ stackTest .unsupported87 [[0x01]] = some (.inr 0x05) := by
  decide +kernel

/-- What a program leaves after `k` steps from reset: B0 and STATUS, where every access lands as `lands` says. -/
def programTest (k : Nat) (lands : Bool) (p : List HostStmt) : Option (Nat × Nat) :=
  match run k { State.reset with bus := assembleProgram (fun _ _ => lands) p } with
  | .next t => some (readB t 0, (statusWord t.status).toNat)
  | _ => none

/-- The two outcomes of 95_test_vectors.md Program 6, with NOP in PMUL's place: a write that lands while BUSY is dropped
with WBUSY or CMDOVR, and one that lands after the completion takes effect. -/
theorem test_program_busy_writes :
    programTest 6 true [.issue .nop, .w32 0x011C 0xFFFFFFFF, .w32 0x0008 0, .wait 1] = some (0, 0x00030002) ∧
    programTest 6 false [.issue .nop, .w32 0x011C 0xFFFFFFFF, .w32 0x0008 0, .wait 0] =
      some (0xFFFFFFFF, 0x00000002) := by
  decide +kernel

/-! ## Witnesses: a concrete state and operands that meet the hypotheses of each statement that has some -/

/-- A BUSY state with command word `w` and B1, B2 given. -/
def busyTest (a b : Nat) (w : Word) : State := acceptCommand (regsTest a b) w

/-- The next state a result answers with. -/
def nextTest (r : Result) : Option State :=
  match r with
  | .next t => some t
  | _ => none

theorem eq_next_of_nextTest {r : Result} {t : State} (h : nextTest r = some t) : r = .next t := by
  unfold nextTest at h
  split at h
  · rw [Option.some.inj h]
  · cases h

theorem quiet_of_no_events {s : State} (h : s.bus = []) : Quiet s := by simp [Quiet, h]

theorem test_witness_CommandEncodeThenDecode :
    (Instr.esign 0 15 1 2).wf = true ∧ encode (.esign 0 15 1 2) = .command 0x00F21040 ∧
    (Instr.ldk 15 6).wf = true ∧ encode (.ldk 15 6) = .command 0x00006F02 := by decide

theorem test_witness_LegalWordIsOneCommand : decodeCommand 0x00000051 = .ok .script := by decide

/-- The six conditions of R104, a word for each. -/
theorem test_witness_illegal_words :
    IllegalWord 0x0000001D ∧ IllegalWord 0x01000000 ∧ IllegalWord 0x00100010 ∧ IllegalWord 0x00000823 ∧
    IllegalWord 0x00007302 ∧ IllegalWord 0x00000040 := by
  refine ⟨.inl rfl, .inr (.inl (by decide)), .inr (.inr (.inl ⟨_, rfl, (.sbz, 1), by decide, .inl (by decide)⟩)),
    .inr (.inr (.inl ⟨_, rfl, (.point, 8), by decide, .inr (by decide)⟩)), .inr (.inr (.inr (.inl (by decide)))),
    .inr (.inr (.inr (.inr (by decide))))⟩

theorem test_witness_IllegalWordsFault :
    State.reset.resetLine = false ∧ State.reset.status.busy = false ∧
    (busyTest 0 0 0x0000001D).status.busy = true ∧ (busyTest 0 0 0x0000001D).vm = none ∧
    Quiet (busyTest 0 0 0x0000001D) ∧ (busyTest 0 0 0x0000001D).cmd = 0x0000001D :=
  ⟨rfl, rfl, rfl, rfl, quiet_of_no_events rfl, rfl⟩

theorem test_witness_ScriptEncodeThenDecode :
    (Instr.pushBytes75 (List.replicate 75 0xEE)).wf = true ∧
    encode (.pushBytes75 (List.replicate 75 0xEE)) = .script (0x4B :: List.replicate 75 0xEE) ∧
    (Instr.opPushData1 (List.replicate 255 0xEE)).wf = true ∧
    encode (.opPushData2 []) = .script [0x4D, 0x00, 0x00] := by decide +kernel

theorem test_witness_StepRunsFetchedInstruction :
    ((busyTest 0 0 0x00000051).status.busy = true ∧ Quiet (busyTest 0 0 0x00000051) ∧
      (busyTest 0 0 0x00000051).vm = none ∧ decodeCommand (busyTest 0 0 0x00000051).cmd = .ok .script) ∧
    ((scriptTest [.opDup] [] false).status.busy = true ∧ Quiet (scriptTest [.opDup] [] false) ∧
      (scriptTest [.opDup] [] false).vm =
        some { prog := [.opDup], ip := 0, stack := [], chkfail := false, tx := emptyTx } ∧
      ([Instr.opDup])[0]? = some .opDup ∧ ([] : List Instr)[0]? = none) ∧
    (State.reset.status.busy = false ∧ State.reset.bus = []) ∧
    (State.reset.status.busy = false ∨ (HostEvent.mk true (.read 0 4)).whileBusy = true) :=
  ⟨⟨rfl, quiet_of_no_events rfl, rfl, by decide⟩, ⟨rfl, quiet_of_no_events rfl, rfl, rfl, rfl⟩, ⟨rfl, rfl⟩, .inl rfl⟩

theorem test_witness_PlacedWordRuns :
    decodeTableWord 8 0x76 = some .opDup ∧ decodeTableWord 32 0x00000051 = some .script ∧
    decodeTableWord 8 0x4E = some (.opPushData4 []) := by decide +kernel

theorem test_witness_InvariantKeptByStep :
    Inv (busyTest 0 0 0) ∧ ∃ t, step (busyTest 0 0 0) = .next t :=
  ⟨⟨by decide, fun _ => by decide, fun h => absurd h (by decide), by unfold CodesLegal; decide, by unfold ReasonLegal; decide,
    fun v h => absurd h (by simp [busyTest, acceptCommand])⟩,
    complete (busyTest 0 0 0) false, eq_next_of_nextTest (by decide +kernel)⟩

/-- A command that runs on, one that completes and one that faults. -/
theorem test_witness_EngineCompletion :
    (∀ w, (acceptCommand txTest w).status.busy = true ∧ BusyClean (acceptCommand txTest w)) ∧
    (afterTest txTest 0x00000051).map (fun t => t.status.busy) = some true ∧
    (afterTest txTest 0x00021310).map (fun t => t.status.err) = some false ∧
    (afterTest (regsTest primeP 0) 0x00021310).map (fun t => t.status.err) = some true :=
  ⟨fun _ => ⟨rfl, fun _ => ⟨rfl, rfl, rfl, rfl, rfl⟩⟩, by decide +kernel, by decide +kernel, by decide +kernel⟩

theorem test_witness_FaultsPrecise :
    (busyTest primeP 0 0x00021310).status.busy = true ∧ BusyClean (busyTest primeP 0 0x00021310) ∧
    Quiet (busyTest primeP 0 0x00021310) ∧
    ∃ t, exec (.fadd 3 1 2) (busyTest primeP 0 0x00021310) = .next t ∧
      step (busyTest primeP 0 0x00021310) = .next t ∧ t.status.err = true :=
  ⟨rfl, by unfold BusyClean; decide +kernel, quiet_of_no_events rfl, raiseFault (busyTest primeP 0 0x00021310) .range,
    eq_next_of_nextTest (by decide +kernel), eq_next_of_nextTest (by decide +kernel), rfl⟩

theorem test_witness_AcceptCommand :
    State.reset.resetLine = false ∧ IdleEmpty State.reset ∧ State.reset.status.busy = false ∧ Quiet State.reset ∧
    decodeCommand 0x00000051 = .ok .script ∧
    (busyTest 0 0 0).resetLine = false ∧ IdleEmpty (busyTest 0 0 0) ∧ (busyTest 0 0 0).status.busy = true :=
  ⟨rfl, fun _ => ⟨rfl, rfl⟩, rfl, quiet_of_no_events rfl, by decide, rfl, fun _ => ⟨rfl, rfl⟩, rfl⟩

theorem test_witness_StatusRegister :
    (busyTest 0 0 0).resetLine = false ∧ BusyClean (busyTest 0 0 0) ∧ (busyTest 0 0 0).status.busy = true := by
  unfold BusyClean
  decide

/-- The W1C bit of DONE and its neighbours' words, and the enable's (IrqLevel). -/
theorem test_witness_IrqLevel :
    State.reset.resetLine = false ∧ State.reset.status.busy = false ∧
    (0x00000002 : Word).getLsbD 1 = true ∧ (0x00000002 : Word).getLsbD 0 = false := by decide

/-- Bad accesses at the limits of R73, and good ones beside them. -/
theorem test_witness_BusErrors :
    State.reset.resetLine = false ∧
    (∀ p ∈ [(0x3FFF, 4), (0x0001, 4), (0x00FF, 1), (0x0000, 1), (0x0100, 2), (0x0100, 0), (0x0100, 8)],
      BadAccess p.1 p.2) ∧
    (∀ p ∈ [(0x0100, 1), (0x3FFF, 1), (0x3FFC, 4), (0x0000, 4)], ¬ BadAccess p.1 p.2) := by
  unfold BadAccess
  decide

/-- The limits of the engine-operand state of R49, with the word accesses that are legal there. -/
theorem test_witness_DroppedWrites :
    (busyTest 0 0 0).resetLine = false ∧ (busyTest 0 0 0).status.busy = true ∧
    (∀ a ∈ [0x14, 0x20, 0x100, 0x35C, 0x400, 0x5FC, 0x1000, 0x23FC],
      OperandOffset a ∧ ¬ BadAccess a 4) ∧
    (∀ a ∈ [0x00, 0x10, 0x24], ¬ OperandOffset a ∧ ¬ BadAccess a 4) := by
  unfold OperandOffset DataOffset BadAccess
  decide

/-- The limits of the command-result state of R51, and input state beside them. -/
theorem test_witness_ReadsHaveNoSideEffect :
    (busyTest 0 0 0).resetLine = false ∧ (busyTest 0 0 0).status.busy = true ∧ State.reset.status.busy = false ∧
    (∀ a ∈ [0x10, 0x14, 0x24, 0x100, 0x31C, 0x400, 0x5FC], ResultOffset a ∧ ¬ BadAccess a 4) ∧
    (∀ a ∈ [0x00, 0x0C, 0x18, 0x20, 0x320, 0x35C, 0x1000, 0x23FC], ¬ ResultOffset a ∧ ¬ BadAccess a 4) := by
  unfold ResultOffset BadAccess
  decide

/-- The limits of the data offsets, by words and by bytes. -/
theorem test_witness_DataWriteReadsBack :
    State.reset.resetLine = false ∧ State.reset.status.busy = false ∧ State.reset.mem.wf ∧
    (∀ a ∈ [0x100, 0x2FC, 0x300, 0x35C, 0x400, 0x5FC, 0x1000, 0x23FC], DataOffset a ∧ ¬ BadAccess a 4) ∧
    (∀ a ∈ [0x100, 0x35F, 0x400, 0x5FF, 0x1000, 0x23FF], DataOffset a ∧ ¬ BadAccess a 1) := by
  refine ⟨rfl, rfl, reset_mem_wf, ?_⟩
  unfold DataOffset BadAccess
  decide

/-- The limits of the reserved offsets. -/
theorem test_witness_ReservedOffsets :
    State.reset.resetLine = false ∧
    (∀ a ∈ [0x28, 0xFC, 0x360, 0x3FC, 0x600, 0xFFC, 0x2400, 0x3FFC], ReservedOffset a ∧ ¬ BadAccess a 4) ∧
    (∀ a ∈ [0x360, 0x3FF, 0x600, 0xFFF, 0x2400, 0x3FFF], ReservedOffset a ∧ ¬ BadAccess a 1) ∧
    ReservedOffset 0x28 ∧ BadAccess 0x28 1 := by
  unfold ReservedOffset BadAccess
  decide

/-- An IDLE state and a BUSY one. -/
theorem test_witness_ControlRegisters :
    State.reset.resetLine = false ∧ State.reset.status.busy = false ∧
    (busyTest 0 0 0).resetLine = false ∧ (busyTest 0 0 0).status.busy = true := by decide

theorem test_witness_CommandsSeeOperandsOnly :
    (busyTest 0 0 0).status.busy = true ∧ HostOp.write 0x0008 4 0 ≠ .assertReset ∧
    SameWork (busyTest 3 4 0x00021310) { busyTest 3 4 0x00021310 with doneie := true } ∧
    ∃ t, exec (.fadd 3 1 2) (busyTest 3 4 0x00021310) = .next t :=
  ⟨rfl, by decide, by simp [SameWork], complete (writeB (busyTest 3 4 0x00021310) 3 7) false,
    eq_next_of_nextTest (by decide +kernel)⟩

theorem test_witness_CommandFrame :
    ∃ t, exec (.fadd 3 1 2) (busyTest 3 4 0x00021310) = .next t ∧ t.b[3] = 7 :=
  ⟨complete (writeB (busyTest 3 4 0x00021310) 3 7) false, eq_next_of_nextTest (by decide +kernel), by decide +kernel⟩

/-- Operands at the limits of the range check, mod p and mod n: m − 1 passes and m does not. -/
theorem test_witness_ring_commands :
    (readB (regsTest (primeP - 1) 0) 1 < primeP ∧ readB (regsTest (primeP - 1) 0) 2 < primeP) ∧
    primeP ≤ readB (regsTest primeP 0) 1 ∧ primeP ≤ readB (regsTest 0 (2 ^ 256 - 1)) 2 ∧
    (readB (regsTest (orderN - 1) 0) 1 < orderN ∧ readB (regsTest (orderN - 1) 0) 2 < orderN) ∧
    orderN ≤ readB (regsTest orderN 0) 1 ∧ orderN ≤ readB (regsTest 0 (2 ^ 256 - 1)) 2 := by decide +kernel

theorem test_witness_ResultsAreReduced :
    (busyTest 3 4 0x00021310).status.err = false ∧
    (∃ t, exec (.fadd 3 1 2) (busyTest 3 4 0x00021310) = .next t ∧ t.status.err = false) ∧
    (∃ t, exec (.nadd 3 1 2) (busyTest 3 4 0x00021318) = .next t ∧ t.status.err = false) :=
  ⟨rfl, ⟨complete (writeB (busyTest 3 4 0x00021310) 3 7) false, eq_next_of_nextTest (by decide +kernel), rfl⟩,
    ⟨complete (writeB (busyTest 3 4 0x00021318) 3 7) false, eq_next_of_nextTest (by decide +kernel), rfl⟩⟩

/-- Valid and invalid points for the branches of the curve statements. -/
theorem test_witness_points :
    pointValid (readPoint (pointsTest genX genY 1 1 0) 0) = true ∧
    pointValid (readPoint (pointsTest genX genY 1 1 0) 1) = false ∧
    pointValid (readPoint (pointsTest 1 1 0 0 0x01) 0) = true ∧ pinfBit (pointsTest 1 1 0 0 0x01) 0 = true := by
  decide +kernel

/-- Group law: the opposite, the tangent and the chord case. -/
theorem test_witness_GroupLawFormulas :
    (genX = genX ∧ (genY + (primeP - genY)) % primeP = 0) ∧ ¬ (genX = genX ∧ (genY + genY) % primeP = 0) ∧
    ¬ (genX = 1 ∧ genY = 2) := by decide +kernel

/-- R232's example: the first candidate of the stream of e = 1 and z = SHA256("Satoshi Nakamoto"). -/
theorem test_esign_candidate :
    candidate 1 0xa0dc65ffca799873cbea0ac274015b9526505daaaed385155425f7337704883e 0 =
      0x8f8a276c19f4149656b280621e358cce24f5f52542772691ee69063b74f15d15 := by decide +kernel

/-- R232's example: the signature of that candidate. -/
theorem test_esign_signature :
    signWith 1 0xa0dc65ffca799873cbea0ac274015b9526505daaaed385155425f7337704883e
        0x8f8a276c19f4149656b280621e358cce24f5f52542772691ee69063b74f15d15 =
      some (0x934b1ea10a4b3c1757e2b0c017d0b6143ce3c9a7e6a4a49860d7a6ab210ee3d8,
        0x2442ce9d2b916064108014783e923ec36b49743e2ffa1c4496f01a512aafd9e5) := by decide +kernel

/-- R232's example meets EsignRun's hypotheses with j = 0, and EsignTurn's branch that signs. -/
theorem test_witness_EsignRun :
    let s := busyTest 1 0xa0dc65ffca799873cbea0ac274015b9526505daaaed385155425f7337704883e 0x00421340
    s.status.busy = true ∧ s.bus = [] ∧ s.vm = none ∧ s.nonce = none ∧
    decodeCommand s.cmd = .ok (.esign 3 4 1 2) ∧ 1 ≤ readB s 1 ∧ readB s 1 < orderN ∧
    signWith (readB s 1) (readB s 2) (candidate (readB s 1) (readB s 2) 0) =
      some (0x934b1ea10a4b3c1757e2b0c017d0b6143ce3c9a7e6a4a49860d7a6ab210ee3d8,
        0x2442ce9d2b916064108014783e923ec36b49743e2ffa1c4496f01a512aafd9e5) := by
  have h1 : readB (busyTest 1 0xa0dc65ffca799873cbea0ac274015b9526505daaaed385155425f7337704883e 0x00421340) 1 = 1 := by
    decide +kernel
  have h2 : readB (busyTest 1 0xa0dc65ffca799873cbea0ac274015b9526505daaaed385155425f7337704883e 0x00421340) 2 =
      0xa0dc65ffca799873cbea0ac274015b9526505daaaed385155425f7337704883e := by decide +kernel
  refine ⟨rfl, rfl, rfl, rfl, by decide, ?_, ?_, ?_⟩
  · rw [h1]
  · rw [h1]; decide
  · rw [h1, h2, test_esign_candidate, test_esign_signature]

/-- ESIGN whose first candidate gives a signature answers with it written. -/
theorem esign_first_candidate {s : State} {rd rc ra rb : Fin 16} {r v : Nat} (hne : rd ≠ rc)
    (hkey : ¬ (readB s ra = 0 ∨ readB s ra ≥ orderN)) (hn : s.nonce = none)
    (hs : signWith (readB s ra) (readB s rb) (candidate (readB s ra) (readB s rb) 0) = some (r, v)) :
    exec (.esign rd rc ra rb) s = .next (complete (writeB (writeB s rd r) rc v) false) := by
  simp only [candidate, nonceStream] at hs
  simp [exec, execEsign, hne, hkey, signTurn, nonceState, hn, hs, finish]

theorem test_witness_SignaturesAreLowS :
    ∃ t, exec (.esign 3 4 1 2)
        (busyTest 1 0xa0dc65ffca799873cbea0ac274015b9526505daaaed385155425f7337704883e 0x00421340) = .next t ∧
      t.status.busy = false ∧ t.status.err = false := by
  have h := test_witness_EsignRun
  exact ⟨_, esign_first_candidate (by decide) (by have := h.2.2.2.2.2.1; have := h.2.2.2.2.2.2.1; omega) rfl
    h.2.2.2.2.2.2.2, rfl, rfl⟩

theorem test_witness_SignDependsOnZModN : 5 % orderN = (5 + orderN) % orderN := by decide

/-- The shortest and the longest canonical DER encodings (95_test_vectors.md L2.5, R241's bounds). -/
theorem test_witness_DerDecodes :
    derEncode 1 127 = [0x30, 0x06, 0x02, 0x01, 0x01, 0x02, 0x01, 0x7F] ∧ derDecode (derEncode 128 0) = some (128, 0) ∧
    derDecode (derEncode (2 ^ 263 - 1) (2 ^ 263 - 1)) = some (2 ^ 263 - 1, 2 ^ 263 - 1) := by decide +kernel

/-- G in its three SEC forms (R240). -/
theorem test_witness_SecDecodesPoints :
    secDecode (0x02 :: beBytes 32 genX) = some (.affine genX genY) ∧
    secDecode (0x03 :: beBytes 32 genX) = some (.affine genX (primeP - genY)) ∧
    secDecode (0x04 :: (beBytes 32 genX ++ beBytes 32 genY)) = some (.affine genX genY) ∧
    pointValid (.affine genX genY) = true := by decide +kernel

/-- Varints at the limits of their forms (R300, R301). -/
theorem test_witness_VarintRoundTrip :
    readVarint [0xFC, 0x07] = some (252, [0x07]) ∧ readVarint [0xFD, 0xFD, 0x00] = some (253, []) ∧
    readVarint [0xFD, 0xFC, 0x00] = none ∧ readVarint [0xFE, 0x00, 0x00, 0x01, 0x00] = some (65536, []) ∧
    readVarint [0xFF, 0x00, 0x00, 0x00, 0x00, 0x01, 0x00, 0x00, 0x00] = some (2 ^ 32, []) := by decide +kernel

/-- A transaction with one input and no output, for the statements on TXBUF. -/
def oneInputTx : Tx :=
  { version := List.replicate 4 0, segwit := false,
    ins := [{ prevTx := List.replicate 32 0, prevIndex := List.replicate 4 0, scriptSig := [],
              sequence := List.replicate 4 0 }],
    outs := [], witnesses := [], locktime := List.replicate 4 0 }

theorem test_witness_transaction :
    txTest.txlen.toNat ≤ 4096 ∧ txTest.spklen.toNat ≤ 1024 ∧ parseTx (txBytes txTest) = some oneInputTx ∧
    txTest.inidx.toNat < oneInputTx.ins.length ∧ oneInputTx.ins[txTest.inidx.toNat]? = oneInputTx.ins.head? := by
  decide +kernel

/-- The limits of the lengths and the index for the faults of SIGHASH and SCRIPT. -/
theorem test_witness_TransactionFaults :
    4096 < ({ txTest with txlen := 4097 } : State).txlen.toNat ∧
    1024 < ({ txTest with spklen := 1025 } : State).spklen.toNat ∧
    parseTx (txBytes { txTest with txlen := 50 }) = none ∧
    oneInputTx.ins.length ≤ ({ txTest with inidx := 1 } : State).inidx.toNat := by decide +kernel

theorem test_witness_SighashIgnoresScriptsAndWitness :
    SameOutline oneInputTx
      { oneInputTx with segwit := true, witnesses := [[]],
                        ins := oneInputTx.ins.map fun x => { x with scriptSig := [0x51] } } := by
  unfold SameOutline
  decide

theorem test_witness_ScriptRefinesEval :
    (acceptCommand txTest 0x00000051).status.busy = true ∧ (acceptCommand txTest 0x00000051).bus = [] ∧
    (acceptCommand txTest 0x00000051).vm = none ∧
    decodeCommand (acceptCommand txTest 0x00000051).cmd = .ok .script := by decide

/-- With `test_witness_transaction`, whose transaction an accepted SCRIPT still holds. -/
theorem test_witness_ScriptCompletes :
    let s := acceptCommand txTest 0x00000051
    s.status.busy = true ∧ s.bus = [] ∧ s.txlen = txTest.txlen ∧ s.spklen = txTest.spklen ∧ s.inidx = txTest.inidx ∧
    txBytes s = txBytes txTest := ⟨rfl, rfl, rfl, rfl, rfl, rfl⟩

/-- A transaction with a SegWit marker, one input and its empty witness, for SerializationRoundTrip. -/
theorem test_witness_segwit_transaction :
    parseTx (List.replicate 4 0 ++ [0, 1, 1] ++ List.replicate 36 0 ++ [0] ++ List.replicate 4 0 ++ [0, 0] ++
        List.replicate 4 0) =
      some { oneInputTx with segwit := true, witnesses := [[]] } := by decide +kernel

/-- The parse failures of ScriptStarts: a truncated push in SPKBUF. -/
theorem test_witness_ScriptStarts :
    refParse [] = some [] ∧
    refParse (spkBytes { txTest with mem := [(0x1004, 0x01), (0x2000, 0x02)], spklen := 2 }) = none := by
  decide +kernel

/-- The three branches of a push, at 520 and 521 bytes and at 1000 elements. -/
theorem test_witness_PushCommands :
    pushedBytes (.opPushData2 (List.replicate 521 0)) = some (List.replicate 521 0) ∧
    (List.replicate 520 (0 : Byte)).length ≤ 520 ∧ (Instr.opPushData2 (List.replicate 521 0)).wf = true ∧
    (scriptTest [.op0] (List.replicate 1000 []) false).vm =
      some { prog := [.op0], ip := 0, stack := List.replicate 1000 [], chkfail := false, tx := emptyTx } ∧
    (List.replicate 1000 ([] : Bytes)).length = 1000 := by decide +kernel

theorem test_witness_UnsupportedOpcodes :
    isUnsupported .unsupported4F = true ∧ isUnsupported .unsupportedFF = true ∧
    (scriptTest [.unsupportedFF] [] false).vm =
      some { prog := [.unsupportedFF], ip := 0, stack := [], chkfail := false, tx := emptyTx } := ⟨rfl, rfl, rfl⟩

theorem test_witness_StackOpcodes :
    (scriptTest [.opDup] (List.replicate 1000 []) false).vm =
      some { prog := [.opDup], ip := 0, stack := List.replicate 1000 [], chkfail := false, tx := emptyTx } ∧
    (List.replicate 1000 ([] : Bytes)).length ≤ 1000 ∧ ∀ x ∈ List.replicate 1000 ([] : Bytes), x.length ≤ 520 := by
  decide +kernel

/-- The branches of OP_CHECKSIG on G's key: a bad type, a bad key, a bad signature, and a signature that is read. -/
theorem test_witness_CheckSigOpcode :
    ([0x02] : Bytes).getD 0 0 ≠ 0x01 ∧ secDecode [0x05] = none ∧ derDecode [] = none ∧
    secDecode (0x02 :: beBytes 32 genX) = some (.affine genX genY) ∧
    derDecode ((derEncode 1 1 ++ [0x01]).take 8) = some (1, 1) := by decide +kernel

/-- The verdicts: negative zero is truthy (R282, U8). -/
theorem test_witness_ScriptVerdict :
    (scriptTest [] [[0x00, 0x80]] false).status.busy = true ∧ Quiet (scriptTest [] [[0x00, 0x80]] false) ∧
    (scriptTest [] [[0x00, 0x80]] false).vm =
      some { prog := [], ip := 0, stack := [[0x00, 0x80]], chkfail := false, tx := emptyTx } ∧
    (∃ b ∈ ([0x00, 0x80] : Bytes), b ≠ 0x00) ∧ ¬ (∃ b ∈ ([0x00, 0x00] : Bytes), b ≠ 0x00) :=
  ⟨rfl, quiet_of_no_events rfl, rfl, by decide, by decide⟩

end Sys2Proof.Machine
end

/-! # The invariant is kept by every step (10_state.md R42, R43, R52; 44_script.md R264) -/

namespace Sys2Proof.Machine

/-! ## What the invariant looks at

Where only fields change that `Inv` does not read, the invariant of the new state is by definition that of the old. -/

/-- Every field the invariant reads but the memory stands, and DONE has not risen. -/
def SameControl (s t : State) : Prop :=
  t.resetLine = s.resetLine ∧ t.vm = s.vm ∧ t.nonce = s.nonce ∧ t.vmstat = s.vmstat ∧
    t.status.busy = s.status.busy ∧ t.status.err = s.status.err ∧ t.status.res = s.status.res ∧
    t.status.ecode = s.status.ecode ∧ (t.status.done = true → s.status.done = true)

theorem SameControl.refl (s : State) : SameControl s s := ⟨rfl, rfl, rfl, rfl, rfl, rfl, rfl, rfl, id⟩

/-- The invariant carries over to a state of the same control with a canonical memory. -/
theorem inv_of_sameControl {s t : State} (hs : Inv s) (hmem : t.mem.wf) (h : SameControl s t) : Inv t := by
  obtain ⟨-, hclean, hidle, hcodes, hreason, hvm⟩ := hs
  obtain ⟨hreset, hvmeq, hnonce, hvmstat, hbusy, herr, hres, hecode, hdone⟩ := h
  refine ⟨hmem, fun hb => ?_, fun hb => ?_, ?_, ?_, fun v hv => hvm v (hvmeq ▸ hv)⟩
  · obtain ⟨d, e, r, c, l⟩ := hclean (hbusy ▸ hb)
    exact ⟨Bool.eq_false_iff.mpr fun h => Bool.eq_false_iff.mp d (hdone h), herr.trans e, hres.trans r,
      hecode.trans c, hreset.trans l⟩
  · obtain ⟨v, n⟩ := hidle (hbusy ▸ hb)
    exact ⟨hvmeq.trans v, hnonce.trans n⟩
  · unfold CodesLegal at *
    rwa [herr, hres, hecode]
  · unfold ReasonLegal at *
    rwa [hvmstat]

/-! ## Completions and running on keep the invariant -/

/-- Every code of R330 is in ECODE's legal range, and none is NONE. -/
theorem faultByte_legal (c : FaultCode) : faultByte c ≠ 0 ∧ (faultByte c).toNat ≤ 0x08 := by
  cases c <;> decide

/-- Every reason of R288 is a legal VMSTAT. -/
theorem reasonByte_legal (r : Reason) : (reasonByte r).toNat ≤ 0x0D := by
  cases r <;> decide

/-- A completion without a fault keeps the invariant because acceptance cleared ERR and ECODE (R42, log entry 13). -/
theorem inv_complete {s : State} (hs : Inv s) (hb : s.status.busy = true) (r : Bool) : Inv (complete s r) := by
  obtain ⟨hmem, hclean, -, -, hreason, -⟩ := hs
  obtain ⟨-, herr, -, hecode, -⟩ := hclean hb
  exact ⟨hmem, fun h => Bool.noConfusion h, fun _ => ⟨rfl, rfl⟩, by simp [CodesLegal, herr, hecode], hreason,
    fun v h => by simp at h⟩

theorem inv_raiseFault {s : State} (hs : Inv s) (c : FaultCode) : Inv (raiseFault s c) := by
  obtain ⟨hmem, -, -, -, hreason, -⟩ := hs
  obtain ⟨hne, hle⟩ := faultByte_legal c
  have hcodes : CodesLegal (raiseFault s c) := ⟨⟨fun _ => hne, fun _ => rfl⟩, fun _ => rfl, hle⟩
  exact ⟨hmem, fun h => Bool.noConfusion h, fun _ => ⟨rfl, rfl⟩, hcodes, hreason, fun v h => by simp at h⟩

theorem inv_finishScript {s : State} (hs : Inv s) (hb : s.status.busy = true) (r : Reason) :
    Inv (finishScript s r) := by
  obtain ⟨hmem, hclean, hidle, hcodes, -, hvm⟩ := hs
  exact inv_complete (s := { s with vmstat := reasonByte r })
    ⟨hmem, hclean, hidle, hcodes, reasonByte_legal r, hvm⟩ hb _

/-- ESIGN's stream may advance while BUSY. -/
theorem inv_withNonce {s : State} (hs : Inv s) (hb : s.status.busy = true) (n : Option Nonce) :
    Inv { s with nonce := n } := by
  obtain ⟨hmem, hclean, -, hcodes, hreason, hvm⟩ := hs
  exact ⟨hmem, hclean, fun h => Bool.noConfusion (hb.symm.trans h), hcodes, hreason, hvm⟩

/-- The script VM may become any state within its limits while BUSY. -/
theorem inv_withVm {s : State} (hs : Inv s) (hb : s.status.busy = true) {v : Vm} (hv : StackBounded v.stack)
    (hip : v.ip ≤ v.prog.length) : Inv { s with vm := some v } := by
  obtain ⟨hmem, hclean, -, hcodes, hreason, -⟩ := hs
  refine ⟨hmem, hclean, fun h => Bool.noConfusion (hb.symm.trans h), hcodes, hreason, fun w hw => ?_⟩
  obtain rfl : v = w := Option.some.inj hw
  exact ⟨hv.1, hv.2, hip⟩

/-! ## The engine -/

/-- The destinations of a completed command are outside what the invariant reads. -/
theorem inv_of_wroteDestinations {i : Instr} {s t : State} (hs : Inv s) (hb : s.status.busy = true)
    (h : WroteDestinations i s t) : Inv t := by
  obtain ⟨⟨r, hfin⟩, -⟩ := h
  rw [hfin]
  exact inv_complete (s := { s with b := t.b, px := t.px, py := t.py, pinf := t.pinf, sh := t.sh })
    hs hb r

theorem inv_of_commandShape {i : Instr} {s t : State} (hs : Inv s) (hb : s.status.busy = true)
    (h : CommandShape i s t) : Inv t := by
  rcases h with ⟨c, -, rfl⟩ | h | ⟨n, rfl, -⟩ | ⟨-, ⟨r, rfl⟩ | ⟨prog, tx, rfl⟩⟩
  · exact inv_raiseFault hs c
  · exact inv_of_wroteDestinations hs hb h
  · exact inv_withNonce hs hb _
  · exact inv_finishScript hs hb r
  · exact inv_withVm hs hb ⟨Nat.zero_le _, by simp [vmStart]⟩ (Nat.zero_le _)

theorem inv_of_scriptStep {s t : State} (hs : Inv s) (hb : s.status.busy = true)
    (hip : ∀ v, s.vm = some v → v.ip < v.prog.length) (h : ScriptStep s t) : Inv t := by
  obtain ⟨v, hv, ⟨r, rfl⟩ | ⟨stack, chk, rfl, hstack⟩⟩ := h
  · exact inv_finishScript hs hb r
  · have ⟨_, _, _, _, _, hvm⟩ := hs
    obtain ⟨hlen, helem, -⟩ := hvm v hv
    exact inv_withVm hs hb (hstack ⟨hlen, helem⟩) (hip v hv)

/-- An instruction keeps the invariant, if a script in progress is not at its end. -/
theorem inv_exec {i : Instr} {s t : State} (hs : Inv s) (hb : s.status.busy = true)
    (hip : ∀ v, s.vm = some v → v.ip < v.prog.length) (h : exec i s = .next t) : Inv t := by
  rcases command_or_script i with hi | hi
  · exact inv_of_commandShape hs hb (exec_command_cases hi h)
  · exact inv_of_scriptStep hs hb hip (exec_script_step hi h)

/-- A fetch that runs an instruction with a script in progress found it at a place of the program. -/
theorem ip_lt_of_fetch_run {s : State} {i : Instr} (h : fetch s = .run i) {v : Vm} (hv : s.vm = some v) :
    v.ip < v.prog.length := by
  simp only [fetch, hv] at h
  split at h
  · exact (List.getElem?_eq_some_iff.mp ‹_›).1
  · cases h

theorem inv_engineStep {s t : State} (hs : Inv s) (h : engineStep s = .next t) : Inv t := by
  cases hb : s.status.busy with
  | false =>
    rw [engineStep_idle hb] at h
    cases h
    exact hs
  | true =>
    rw [engineStep_busy hb] at h
    cases hf : fetch s with
    | run i =>
      rw [hf] at h
      exact inv_exec hs hb (fun _ hv => ip_lt_of_fetch_run hf hv) h
    | illegal =>
      rw [hf] at h
      obtain rfl := (raise_next _ _ _).mp h
      exact inv_raiseFault hs _
    | scriptEnd v =>
      rw [hf] at h
      cases h
      exact inv_finishScript hs hb _

/-! ## The host -/

/-- A byte stored changes data registers or buffer bytes alone. -/
theorem sameControl_storeByte (s : State) (a : Nat) (v : Byte) : SameControl s (storeByte s a v) := by
  unfold storeByte
  repeat' split
  all_goals exact SameControl.refl s

/-- A byte stored leaves the memory alone, or is stored inside the buffers. -/
theorem storeByte_mem_cases (s : State) (a : Nat) (v : Byte) :
    (storeByte s a v).mem = s.mem ∨
      (bufferStart ≤ a ∧ a < bufferEnd ∧ (storeByte s a v).mem = memWrite s.mem a v) := by
  unfold storeByte
  repeat' split
  case isFalse.isFalse.isFalse.isFalse.isTrue hbuf =>
    obtain ⟨hlo, hhi⟩ := of_decide_eq_true hbuf
    exact .inr ⟨hlo, hhi, rfl⟩
  all_goals exact .inl rfl

theorem inv_storeByte {s : State} (hs : Inv s) (a : Nat) (v : Byte) : Inv (storeByte s a v) := by
  refine inv_of_sameControl hs ?_ (sameControl_storeByte s a v)
  rcases storeByte_mem_cases s a v with h | ⟨hlo, hhi, h⟩
  · exact h ▸ hs.1
  · exact h ▸ memWrite_wf hs.1 hlo hhi v

theorem inv_storeData {s : State} (hs : Inv s) (a width : Nat) (v : Word) : Inv (storeData s a width v) := by
  unfold storeData
  split
  · exact inv_storeByte hs _ _
  · exact inv_storeByte (inv_storeByte (inv_storeByte (inv_storeByte hs _ _) _ _) _ _) _ _

/-- A W1C write clears flags and changes no other field of STATUS. -/
theorem inv_statusAfterWrite {s : State} (hs : Inv s) (w : Word) :
    Inv { s with status := statusAfterWrite s.status w } :=
  inv_of_sameControl hs hs.1
    ⟨rfl, rfl, rfl, rfl, rfl, rfl, rfl, rfl, fun h => (Bool.and_eq_true_iff.mp h).1⟩

theorem inv_acceptCommand {s : State} (hs : Inv s) (hr : s.resetLine = false) (w : Word) :
    Inv (acceptCommand s w) := by
  obtain ⟨hmem, -, -, -, hreason, -⟩ := hs
  exact ⟨hmem, fun _ => ⟨rfl, rfl, rfl, rfl, hr⟩, fun h => Bool.noConfusion h, by simp [CodesLegal], hreason,
    fun v h => by simp at h⟩

theorem inv_writeCmd {s : State} (hs : Inv s) (hr : s.resetLine = false) (w : Word) : Inv (writeCmd s w) := by
  unfold writeCmd
  split
  · exact hs
  · exact inv_acceptCommand hs hr w

theorem inv_writeControl {s : State} (hs : Inv s) (hr : s.resetLine = false) (a : Nat) (v : Word) :
    Inv (writeControl s a v) := by
  unfold writeControl
  split
  · exact inv_statusAfterWrite hs v
  · exact inv_writeCmd hs hr v
  all_goals exact hs

theorem inv_hostWrite {s : State} (hs : Inv s) (hr : s.resetLine = false) (a width : Nat) (v : Word) :
    Inv (hostWrite s a width v) := by
  unfold hostWrite
  split
  · exact hs
  split
  · exact hs
  split
  · exact inv_writeControl hs hr a v
  · exact inv_storeData hs a width v

/-- A read changes the sticky BUSERR and the model's own fields at most. -/
theorem inv_hostRead {s : State} (hs : Inv s) (a width : Nat) : Inv (hostRead s a width) := by
  unfold hostRead
  repeat' split
  all_goals exact hs

theorem inv_applyReset (s : State) : Inv (applyReset s) :=
  ⟨resetMemory_wf _, fun h => Bool.noConfusion h, fun _ => ⟨rfl, rfl⟩,
    ⟨⟨fun h => Bool.noConfusion h, fun h => absurd rfl h⟩, fun h => Bool.noConfusion h, Nat.zero_le _⟩,
    Nat.zero_le _, fun _ h => by simp [applyReset, State.reset] at h⟩

theorem inv_hostEvent {s : State} (hs : Inv s) (op : HostOp) : Inv (hostEvent s op) := by
  cases op with
  | read off width =>
    simp only [hostEvent]
    split
    · exact hs
    · exact inv_hostRead hs _ _
  | write off width v =>
    simp only [hostEvent]
    split
    · exact hs
    · exact inv_hostWrite hs (Bool.eq_false_iff.mpr ‹_›) _ _ v
  | assertReset => exact inv_applyReset s
  | releaseReset =>
    obtain ⟨hmem, hclean, hidle, hcodes, hreason, hvm⟩ := hs
    refine ⟨hmem, fun hb => ?_, hidle, hcodes, hreason, hvm⟩
    obtain ⟨hdone, herr, hres, hecode, -⟩ := hclean hb
    exact ⟨hdone, herr, hres, hecode, rfl⟩

/-- Settles O11: at reset the engine is IDLE, its memory is empty and every code is 0. -/
theorem invariantAtReset : Obligations.InvariantAtReset :=
  ⟨reset_mem_wf, fun h => Bool.noConfusion h, fun _ => ⟨rfl, rfl⟩, by unfold CodesLegal; decide,
    by unfold ReasonLegal; decide, fun _ h => by simp [State.reset] at h⟩

/-- Settles O10: a step is one of the engine, which keeps the invariant by the shapes of `exec`, or a host event. -/
theorem invariantKeptByStep : Obligations.InvariantKeptByStep := by
  intro s t hs h
  rcases step_cases s with hstep | ⟨e, rest, -, hstep⟩
  · exact inv_engineStep hs (hstep ▸ h)
  · rw [hstep] at h
    cases h
    have hq : Inv { s with bus := rest } := hs
    exact inv_hostEvent hq e.op

end Sys2Proof.Machine

/-! # One step of the engine: what it runs, how it ends, what it leaves unchanged (10_state.md R40, R54) -/

namespace Sys2Proof.Machine

/-! ## Where a step goes -/

/-- With no host event that may land now, a step of a BUSY block is a step of the engine (log entry 4). -/
theorem step_eq_engineStep {s : State} (hb : s.status.busy = true) (hq : Quiet s) : step s = engineStep s := by
  unfold step machineStep
  split
  · rfl
  · rename_i e rest hbus
    have he : e.whileBusy = false := hq e (by simp [hbus])
    simp [hb, he]

/-- A host event that may land now is the step. -/
theorem step_eq_hostEvent {s : State} {e : HostEvent} {rest : List HostEvent} (hbus : s.bus = e :: rest)
    (h : s.status.busy = false ∨ e.whileBusy = true) : step s = .next (hostEvent { s with bus := rest } e.op) := by
  have hland : (s.status.busy && !e.whileBusy) = false := by
    rcases h with h | h <;> simp [h]
  simp [step, machineStep, hbus, hland]

/-- While IDLE with no event left the state stands (log entry 14). -/
theorem step_idle {s : State} (hb : s.status.busy = false) (hbus : s.bus = []) : step s = .next s := by
  simp [step, machineStep, hbus, engineStep_idle hb]

/-- A step of a BUSY block that fetches an instruction is that instruction. -/
theorem step_of_fetch_run {s : State} {i : Instr} (hb : s.status.busy = true) (hq : Quiet s)
    (hf : fetch s = .run i) : step s = exec i s := by
  rw [step_eq_engineStep hb hq, engineStep_busy hb, hf]

theorem fetch_command {s : State} {i : Instr} (hv : s.vm = none) (hd : decodeCommand s.cmd = .ok i) :
    fetch s = .run i := by
  simp [fetch, hv, hd]

theorem fetch_script {s : State} {v : Vm} {i : Instr} (hv : s.vm = some v) (hi : v.prog[v.ip]? = some i) :
    fetch s = .run i := by
  simp [fetch, hv, hi]

theorem fetch_scriptEnd {s : State} {v : Vm} (hv : s.vm = some v) (hi : v.prog[v.ip]? = none) :
    fetch s = .scriptEnd v := by
  simp [fetch, hv, hi]

/-- SCRIPT's completion is what the claims call an ended evaluation. -/
theorem scriptEnded_finishScript (s : State) (r : Reason) : ScriptEnded s (finishScript s r) r := by
  cases r <;> rfl

/-- Settles O7, clause by clause from the fetch. -/
theorem stepRunsFetchedInstruction : Obligations.StepRunsFetchedInstruction := by
  refine ⟨?command, ?script, ?ended, ?idle, ?host⟩
  case command => exact fun s i hb hq hv hd => step_of_fetch_run hb hq (fetch_command hv hd)
  case script => exact fun s v i hb hq hv hi => step_of_fetch_run hb hq (fetch_script hv hi)
  case ended =>
    intro s v hb hq hv hi
    refine ⟨finishScript s (verdict v), ?_, scriptEnded_finishScript s _⟩
    rw [step_eq_engineStep hb hq, engineStep_busy hb, fetch_scriptEnd hv hi]
    rfl
  case idle => exact fun s hb hbus => step_idle hb hbus
  case host => exact fun s e rest hbus h => step_eq_hostEvent hbus h

/-! ## How a step of a command ends -/

/-- The three ways a step of a command ends: still running, completed without a fault, or with one. -/
def StepEnds (s t : State) : Prop :=
  (t.status = s.status ∧ t.errcmd = s.errcmd ∧ (t.vm ≠ none ∨ t.nonce ≠ none)) ∨
  (t.status = { s.status with busy := false, done := true, err := false, res := t.status.res, ecode := 0 } ∧
    t.errcmd = s.errcmd ∧ t.vm = none ∧ t.nonce = none) ∨
  (∃ c, Faulted s t c)

/-- A completion without a fault leaves ERR and ECODE 0, as acceptance had them (R42, R332; log entry 13). -/
theorem stepEnds_of_finished {s t u : State} {r : Bool} (hb : s.status.busy = true) (hc : BusyClean s)
    (h : Finished u t r) (hstatus : u.status = s.status) (herrcmd : u.errcmd = s.errcmd) : StepEnds s t := by
  obtain ⟨-, herr, -, hecode, -⟩ := hc hb
  rw [h]
  refine .inr (.inl ⟨?_, herrcmd, rfl, rfl⟩)
  simp [hstatus, herr, hecode]

theorem stepEnds_of_commandShape {i : Instr} {s t : State} (hb : s.status.busy = true) (hc : BusyClean s)
    (h : CommandShape i s t) : StepEnds s t := by
  rcases h with ⟨c, -, h⟩ | ⟨⟨r, hfin⟩, -⟩ | ⟨n, rfl, -⟩ | ⟨-, ⟨r, rfl⟩ | ⟨prog, tx, rfl⟩⟩
  · exact .inr (.inr ⟨c, h⟩)
  · exact stepEnds_of_finished hb hc hfin rfl rfl
  · exact .inl ⟨rfl, rfl, .inr (by simp)⟩
  · exact stepEnds_of_finished hb hc (scriptEnded_finishScript s r) rfl rfl
  · exact .inl ⟨rfl, rfl, .inl (by simp)⟩

theorem stepEnds_of_scriptStep {s t : State} (hb : s.status.busy = true) (hc : BusyClean s)
    (h : ScriptStep s t) : StepEnds s t := by
  obtain ⟨v, -, ⟨r, rfl⟩ | ⟨stack, chk, rfl, -⟩⟩ := h
  · exact stepEnds_of_finished hb hc (scriptEnded_finishScript s r) rfl rfl
  · exact .inl ⟨rfl, rfl, .inl (by simp)⟩

/-- Settles O13, by the shapes of the next state of a command of the block and of a script command. -/
theorem engineCompletion : Obligations.EngineCompletion := by
  intro i s t hb hc h
  change StepEnds s t
  rcases command_or_script i with hi | hi
  · exact stepEnds_of_commandShape hb hc (exec_command_cases hi h)
  · exact stepEnds_of_scriptStep hb hc (exec_script_step hi h)

/-! ## What a command leaves unchanged -/

/-- The fields no instruction writes: SW, the buffers, the input registers, CMD, IRQEN, the reset input, the model's own
fields and the sticky flags. -/
def SameInputs (s t : State) : Prop :=
  t.sw = s.sw ∧ (∀ a, memRead t.mem a = memRead s.mem a) ∧ t.txlen = s.txlen ∧ t.inidx = s.inidx ∧
    t.spklen = s.spklen ∧ t.cmd = s.cmd ∧ t.doneie = s.doneie ∧ t.resetLine = s.resetLine ∧ t.bus = s.bus ∧
    t.reads = s.reads ∧ t.draws = s.draws ∧ t.status.cmdovr = s.status.cmdovr ∧
    t.status.wbusy = s.status.wbusy ∧ t.status.buserr = s.status.buserr

theorem SameInputs.refl (s : State) : SameInputs s s :=
  ⟨rfl, fun _ => rfl, rfl, rfl, rfl, rfl, rfl, rfl, rfl, rfl, rfl, rfl, rfl, rfl⟩

/-- The frame of an instruction: all but its destinations, STATUS, ERRCMD, the values of R52 and VMSTAT. -/
def FramedBy (i : Instr) (s t : State) : Prop :=
  (∀ j, j ∉ destB i → t.b[j] = s.b[j]) ∧
    (∀ j, j ∉ destP i → t.px[j] = s.px[j] ∧ t.py[j] = s.py[j] ∧ pinfBit t j = pinfBit s j) ∧
    (writesSh i = false → t.sh = s.sh) ∧ SameInputs s t ∧
    (t.vmstat ≠ s.vmstat → i = .script ∨ (scriptOf i).isSome = true)

/-- Where the data registers stand, no destination was written. -/
theorem framedBy_of_no_destination (i : Instr) {s t : State} (hb : t.b = s.b) (hpx : t.px = s.px)
    (hpy : t.py = s.py) (hpinf : t.pinf = s.pinf) (hsh : t.sh = s.sh) (hin : SameInputs s t)
    (hvm : t.vmstat ≠ s.vmstat → i = .script ∨ (scriptOf i).isSome = true) : FramedBy i s t :=
  ⟨fun _ _ => by rw [hb], fun _ _ => ⟨by rw [hpx], by rw [hpy], by rw [pinfBit, pinfBit, hpinf]⟩, fun _ => hsh, hin,
    hvm⟩

theorem framedBy_of_wroteDestinations {i : Instr} {s t : State} (h : WroteDestinations i s t) : FramedBy i s t := by
  obtain ⟨⟨r, hfin⟩, hdestB, hdestP, hsh⟩ := h
  refine ⟨hdestB, hdestP, hsh, ?_, ?_⟩
  · rw [hfin]
    exact SameInputs.refl s
  · rw [hfin]
    exact fun hne => absurd rfl hne

theorem framedBy_of_commandShape {i : Instr} {s t : State} (h : CommandShape i s t) : FramedBy i s t := by
  rcases h with ⟨c, -, rfl⟩ | h | ⟨n, rfl, -⟩ | ⟨hi, ⟨r, rfl⟩ | ⟨prog, tx, rfl⟩⟩
  · exact framedBy_of_no_destination i rfl rfl rfl rfl rfl (SameInputs.refl s) fun hne => absurd rfl hne
  · exact framedBy_of_wroteDestinations h
  · exact framedBy_of_no_destination i rfl rfl rfl rfl rfl (SameInputs.refl s) fun hne => absurd rfl hne
  · exact framedBy_of_no_destination i rfl rfl rfl rfl rfl (SameInputs.refl s) fun _ => .inl hi
  · exact framedBy_of_no_destination i rfl rfl rfl rfl rfl (SameInputs.refl s) fun hne => absurd rfl hne

theorem framedBy_of_scriptStep {i : Instr} {s t : State} (hi : (scriptOf i).isSome = true) (h : ScriptStep s t) :
    FramedBy i s t := by
  obtain ⟨v, -, ⟨r, rfl⟩ | ⟨stack, chk, rfl, -⟩⟩ := h
  · exact framedBy_of_no_destination i rfl rfl rfl rfl rfl (SameInputs.refl s) fun _ => .inr hi
  · exact framedBy_of_no_destination i rfl rfl rfl rfl rfl (SameInputs.refl s) fun _ => .inr hi

/-- Settles O27, by the shapes of the next state of a command of the block and of a script command. -/
theorem commandFrame : Obligations.CommandFrame := by
  intro i s t h
  have hframe : FramedBy i s t := by
    rcases command_or_script i with hi | hi
    · exact framedBy_of_commandShape (exec_command_cases hi h)
    · exact framedBy_of_scriptStep hi (exec_script_step hi h)
  simpa only [FramedBy, SameInputs, and_assoc] using hframe

end Sys2Proof.Machine

/-! # The host's window: the address map, control registers and STATUS (10_state.md R41 to R53, 20_memory.md R73) -/

namespace Sys2Proof.Machine

/-! ## The address map in the claims' words -/

theorem inB_iff (a : Nat) : inB a = true ↔ 0x100 ≤ a ∧ a < 0x300 := decide_eq_true_iff

theorem inSh_iff (a : Nat) : inSh a = true ↔ 0x300 ≤ a ∧ a < 0x320 := decide_eq_true_iff

theorem inSw_iff (a : Nat) : inSw a = true ↔ 0x320 ≤ a ∧ a < 0x360 := decide_eq_true_iff

theorem inPoint_iff (a : Nat) : inPoint a = true ↔ 0x400 ≤ a ∧ a < 0x600 := decide_eq_true_iff

theorem inBuffer_iff (a : Nat) : inBuffer a = true ↔ bufferStart ≤ a ∧ a < bufferEnd := decide_eq_true_iff

theorem busError_iff (a width : Nat) : busError a width = true ↔ BadAccess a width := by
  by_cases h4 : width = 4
  · simp [busError, BadAccess, h4]
  · by_cases h1 : width = 1 <;> simp [busError, BadAccess, inControl, h4, h1]

theorem isOperand_iff (a : Nat) : isOperand a = true ↔ OperandOffset a := by
  simp only [isOperand, Bool.or_eq_true, beq_iff_eq, inB_iff, inSh_iff, inSw_iff, inPoint_iff, inBuffer_iff,
    bufferStart, bufferEnd, OperandOffset, DataOffset]
  omega

theorem isResult_iff (a : Nat) : isResult a = true ↔ ResultOffset a := by
  simp only [isResult, Bool.or_eq_true, beq_iff_eq, inB_iff, inSh_iff, inPoint_iff, ResultOffset]
  omega

theorem busError_eq_false {a width : Nat} (h : ¬ BadAccess a width) : busError a width = false :=
  Bool.eq_false_iff.mpr fun he => h ((busError_iff a width).mp he)

/-- A legal access of the control page is an aligned word. -/
theorem width_eq_four_of_control {a width : Nat} (h : ¬ BadAccess a width) (ha : a < 0x100) : width = 4 := by
  unfold BadAccess at h
  omega

/-! ## Reads and writes, the reset input released -/

theorem hostEvent_read {s : State} (hr : s.resetLine = false) (off : BitVec 14) (width : Nat) :
    hostEvent s (.read off width) = hostRead s off.toNat width := by
  simp [hostEvent, hr]

theorem hostEvent_write {s : State} (hr : s.resetLine = false) (off : BitVec 14) (width : Nat) (v : Word) :
    hostEvent s (.write off width v) = hostWrite s off.toNat width v := by
  simp [hostEvent, hr]

/-- While IDLE, and of input state always, a legal read returns the current value (R51). -/
theorem hostRead_value {s : State} {a width : Nat} (hok : busError a width = false)
    (hfree : (s.status.busy && isResult a) = false) :
    hostRead s a width = { s with reads := readValue s a width :: s.reads } := by
  simp [hostRead, hok, hfree]

/-- A legal read of command-result state while BUSY returns a free draw (R51, log entry 8). -/
theorem hostRead_drawn {s : State} {a width : Nat} (hok : busError a width = false)
    (hfree : (s.status.busy && isResult a) = true) :
    hostRead s a width =
      { s with reads := drawnValue a width (Config.busyRead s.draws) :: s.reads, draws := s.draws + 1 } := by
  simp [hostRead, hok, hfree]

/-- An operand write while BUSY sets WBUSY alone (R49). -/
theorem hostWrite_dropped {s : State} {a width : Nat} (v : Word) (hok : busError a width = false)
    (hop : (s.status.busy && isOperand a) = true) : hostWrite s a width v = setWbusy s := by
  simp [hostWrite, hok, hop]

/-- A legal write of the control page that is not dropped. -/
theorem hostWrite_control {s : State} {a width : Nat} (v : Word) (hok : busError a width = false)
    (hop : (s.status.busy && isOperand a) = false) (hc : inControl a = true) :
    hostWrite s a width v = writeControl s a v := by
  simp [hostWrite, hok, hop, hc]

/-! ## The control page by word access -/

/-- A word read of a control register that is free to read: not command-result state, or the block IDLE. -/
theorem read_control {s : State} (hr : s.resetLine = false) (off : BitVec 14)
    (hoff : off.toNat < 0x100 ∧ off.toNat % 4 = 0) (hfree : s.status.busy = false ∨ isResult off.toNat = false) :
    hostEvent s (.read off 4) = { s with reads := controlWord s off.toNat :: s.reads } := by
  obtain ⟨hc, hal⟩ := hoff
  have hok : busError off.toNat 4 = false := by simp [busError, hal]
  have hfree' : (s.status.busy && isResult off.toNat) = false := Bool.and_eq_false_iff.mpr hfree
  rw [hostEvent_read hr, hostRead_value hok hfree']
  simp [readValue, inControl, hc]

/-- A word write of a control register that is taken: not engine-operand state, or the block IDLE. -/
theorem write_control {s : State} (hr : s.resetLine = false) (off : BitVec 14) (v : Word)
    (hoff : off.toNat < 0x100 ∧ off.toNat % 4 = 0) (hop : s.status.busy = false ∨ isOperand off.toNat = false) :
    hostEvent s (.write off 4 v) = writeControl s off.toNat v := by
  obtain ⟨hc, hal⟩ := hoff
  rw [hostEvent_write hr]
  exact hostWrite_control v (by simp [busError, hal]) (Bool.and_eq_false_iff.mpr hop) (decide_eq_true hc)

section Accesses
variable {s : State} (hr : s.resetLine = false)
include hr

theorem read_id : hostEvent s (.read 0x0000 4) = { s with reads := idValue :: s.reads } :=
  read_control hr 0x0000 (by decide) (.inr rfl)

theorem read_status : hostEvent s (.read 0x0004 4) = { s with reads := statusWord s.status :: s.reads } :=
  read_control hr 0x0004 (by decide) (.inr rfl)

theorem read_cmd : hostEvent s (.read 0x0008 4) = { s with reads := s.cmd :: s.reads } :=
  read_control hr 0x0008 (by decide) (.inr rfl)

theorem read_irqen : hostEvent s (.read 0x000C 4) = { s with reads := flagBit s.doneie 0 :: s.reads } :=
  read_control hr 0x000C (by decide) (.inr rfl)

theorem write_status (v : Word) :
    hostEvent s (.write 0x0004 4 v) = { s with status := statusAfterWrite s.status v } :=
  write_control hr 0x0004 v (by decide) (.inr rfl)

theorem write_cmd (v : Word) : hostEvent s (.write 0x0008 4 v) = writeCmd s v :=
  write_control hr 0x0008 v (by decide) (.inr rfl)

theorem write_irqen (v : Word) : hostEvent s (.write 0x000C 4 v) = { s with doneie := v.getLsbD 0 } :=
  write_control hr 0x000C v (by decide) (.inr rfl)

end Accesses

theorem writeCmd_idle {s : State} (hb : s.status.busy = false) (w : Word) : writeCmd s w = acceptCommand s w := by
  simp [writeCmd, hb]

theorem writeCmd_busy {s : State} (hb : s.status.busy = true) (w : Word) : writeCmd s w = setCmdovr s := by
  simp [writeCmd, hb]

/-- An acceptance with none of the values of R52 present changes CMD and STATUS alone. -/
theorem acceptCommand_of_idleEmpty {s : State} (h : s.vm = none ∧ s.nonce = none) (w : Word) :
    acceptCommand s w =
      { s with
        cmd := w,
        status := { s.status with busy := true, done := false, err := false, res := false, ecode := 0 } } := by
  obtain ⟨hvm, hnonce⟩ := h
  rw [acceptCommand, hvm, hnonce]

/-! ## The STATUS word -/

theorem getLsbD_flagBit (f : Bool) (k i : Nat) :
    (flagBit f k).getLsbD i = (decide (i < 32) && decide (i = k) && f) := by
  have hplace : i = k ↔ ¬ i < k ∧ i - k < 32 ∧ i - k = 0 := by omega
  cases f with
  | false => simp [flagBit]
  | true =>
    simp only [flagBit, BitVec.getLsbD_shiftLeft, BitVec.getLsbD_setWidth, BitVec.getLsbD_ofBool, hplace,
      Bool.decide_and, decide_not, Bool.and_true, Bool.and_assoc]

/-- Each bit of the word read of STATUS: its field's, and 0 at a reserved place (R43). -/
theorem getLsbD_statusWord (t : StatusReg) {i : Nat} (hi : i < 32) :
    (statusWord t).getLsbD i =
      (decide (i = 0) && t.busy || decide (i = 1) && t.done || decide (i = 2) && t.err || decide (i = 3) && t.res ||
        decide (8 ≤ i) && t.ecode.getLsbD (i - 8) || decide (i = 16) && t.cmdovr || decide (i = 17) && t.wbusy ||
        decide (i = 18) && t.buserr) := by
  have h32 : i - 8 < 32 := by omega
  simp only [statusWord, BitVec.getLsbD_or, getLsbD_flagBit, BitVec.getLsbD_shiftLeft, BitVec.getLsbD_setWidth, hi, h32,
    decide_true, Bool.true_and, ← Nat.not_lt, decide_not]

theorem getLsbD_statusWord_reserved (t : StatusReg) {i : Nat} (h : (4 ≤ i ∧ i < 8) ∨ (19 ≤ i ∧ i < 32)) :
    (statusWord t).getLsbD i = false := by
  have hecode : (decide (8 ≤ i) && t.ecode.getLsbD (i - 8)) = false := by
    rcases h with h | h
    · simp; omega
    · simp [BitVec.getLsbD_of_ge t.ecode (i - 8) (by omega)]
  have hne : i ≠ 0 ∧ i ≠ 1 ∧ i ≠ 2 ∧ i ≠ 3 ∧ i ≠ 16 ∧ i ≠ 17 ∧ i ≠ 18 := by omega
  simp [getLsbD_statusWord t (i := i) (by omega), hecode, hne]

theorem getLsbD_statusWord_ecode (t : StatusReg) {k : Nat} (hk : k < 8) :
    (statusWord t).getLsbD (8 + k) = t.ecode.getLsbD k := by
  rw [getLsbD_statusWord t (by omega), Nat.add_sub_cancel_left]
  have hne : 8 + k ≠ 16 ∧ 8 + k ≠ 17 ∧ 8 + k ≠ 18 ∧ 8 + k ≠ 1 ∧ 8 + k ≠ 2 ∧ 8 + k ≠ 3 := by omega
  simp [hne]

/-- A flag in bit 0 is the word 1 or 0. -/
theorem flagBit_zero (f : Bool) : flagBit f 0 = if f then 1 else 0 := by
  cases f <;> rfl

/-! ## The obligations -/

/-- Settles O12: each offset is read by its control register's rule. -/
theorem resetState : Obligations.ResetState := by
  refine ⟨congrArg State.reads (read_id rfl), fun off hoff => ?_, rfl, rfl, rfl, rfl, step_idle rfl rfl⟩
  simp only [List.mem_cons, List.not_mem_nil, or_false] at hoff
  rcases hoff with rfl | rfl | rfl | rfl | rfl | rfl | rfl | rfl
  all_goals exact congrArg State.reads (read_control rfl _ (by decide) (.inl rfl))

/-- Settles O15, from the rule of a CMD write and the fetch of the word it stored. The namespace keeps it apart from the
model's operation of that name. -/
theorem Claims.acceptCommand : Obligations.AcceptCommand := by
  intro s w hr hidle
  refine ⟨fun hb => ?_, fun hb hq i hd => ?_, fun hb => ?_, read_cmd hr⟩
  · rw [write_cmd hr, writeCmd_idle hb, acceptCommand_of_idleEmpty (hidle hb)]
  · rw [write_cmd hr, writeCmd_idle hb]
    exact step_of_fetch_run rfl hq (fetch_command rfl hd)
  · rw [write_cmd hr, writeCmd_busy hb, setCmdovr]

/-- Settles O16: the bits of the STATUS word, and the W1C write, which finds DONE already 0 while BUSY. -/
theorem statusRegister : Obligations.StatusRegister := by
  intro s w hr
  refine ⟨⟨statusWord s.status, read_status hr, ?_⟩, write_status hr w, fun hc hb => ?_⟩
  · refine ⟨?_, ?_, ?_, ?_, ?reservedLow, ?ecode, ?_, ?_, ?_, ?reservedHigh⟩
    case reservedLow =>
      refine BitVec.eq_of_getLsbD_eq fun k hk => ?_
      simp [BitVec.getLsbD_extractLsb', getLsbD_statusWord_reserved s.status (i := 4 + k) (by omega)]
    case ecode =>
      refine BitVec.eq_of_getLsbD_eq fun k hk => ?_
      rw [BitVec.getLsbD_extractLsb', getLsbD_statusWord_ecode s.status hk]
      simp [hk]
    case reservedHigh =>
      refine BitVec.eq_of_getLsbD_eq fun k hk => ?_
      simp [BitVec.getLsbD_extractLsb', getLsbD_statusWord_reserved s.status (i := 19 + k) (by omega)]
    all_goals
      rw [getLsbD_statusWord s.status (by decide)]
      simp
  · obtain ⟨hdone, -⟩ := hc hb
    rw [write_status hr, hdone]
    simp [statusAfterWrite, clearedBy, hdone]

/-- Settles O17: DONE falls by the W1C write or the acceptance, DONEIE by the IRQEN write. -/
theorem irqLevel : Obligations.IrqLevel := by
  intro s w hr
  refine ⟨Bool.and_eq_true_iff, fun hw => ?_, fun hb => ?_, fun hw => ?_⟩
  · rw [write_status hr]
    simp [irq, statusAfterWrite, clearedBy, hw]
  · rw [write_cmd hr, writeCmd_idle hb]
    simp [irq]
  · rw [write_irqen hr]
    exact Bool.and_eq_false_iff.mpr (.inl hw)

/-- Settles O19: a dropped operand write, and the three read-only registers, which no control write stores to. -/
theorem droppedWrites : Obligations.DroppedWrites := by
  intro s off width v hr hok
  refine ⟨fun hb hop => ?_, fun hoff => ?_⟩
  · rw [hostEvent_write hr,
      hostWrite_dropped v (busError_eq_false hok) (by rw [hb, (isOperand_iff _).mpr hop]; rfl), setWbusy]
  · have hpage : (off.toNat < 0x100 ∧ off.toNat % 4 = 0) ∧ isOperand off.toNat = false := by
      rcases hoff with rfl | rfl | rfl <;> decide
    obtain rfl := width_eq_four_of_control hok hpage.1.1
    rw [write_control hr off v hpage.1 (.inr hpage.2)]
    rcases hoff with rfl | rfl | rfl <;> rfl

/-- Settles O20: the two kinds of a legal read. -/
theorem readsHaveNoSideEffect : Obligations.ReadsHaveNoSideEffect := by
  intro s off width hr hok
  have hok := busError_eq_false hok
  rw [hostEvent_read hr]
  refine ⟨fun hfree => hostRead_value hok ?_, fun hb hres => ⟨_, hostRead_drawn hok ?_⟩⟩
  · rw [← isResult_iff, Bool.not_eq_true] at hfree
    exact Bool.and_eq_false_iff.mpr hfree
  · rw [hb, (isResult_iff _).mpr hres]
    rfl

/-- Settles O24: the rule of a control write or read at each register's offset. -/
theorem controlRegisters : Obligations.ControlRegisters := by
  intro s v hr
  refine ⟨⟨write_irqen hr v, ?_, read_id hr⟩, fun hb => ⟨?_, ?_, ?_, ?_, ?_, ?_, ?_, ?_, ?_, ?_⟩⟩
  · rw [read_irqen hr, flagBit_zero]
  · exact write_control hr 0x0014 v (by decide) (.inl hb)
  · exact write_control hr 0x0018 v (by decide) (.inl hb)
  · exact write_control hr 0x001C v (by decide) (.inl hb)
  · exact write_control hr 0x0020 v (by decide) (.inl hb)
  · exact read_control hr 0x0010 (by decide) (.inl hb)
  · exact read_control hr 0x0014 (by decide) (.inl hb)
  · exact read_control hr 0x0018 (by decide) (.inl hb)
  · exact read_control hr 0x001C (by decide) (.inl hb)
  · exact read_control hr 0x0020 (by decide) (.inl hb)
  · exact read_control hr 0x0024 (by decide) (.inl hb)

end Sys2Proof.Machine

/-! # The byte and word views of the registers and the buffers (10_state.md R31 to R38, 20_memory.md R71) -/

namespace Sys2Proof.Machine

/-! ## Bytes of a word -/

theorem leBytes_getD (n v k : Nat) (hk : k < n) : (leBytes n v).getD k 0 = BitVec.ofNat 8 (v / 256 ^ k) := by
  induction n generalizing v k with
  | zero => exact absurd hk (Nat.not_lt_zero k)
  | succ n ih =>
    cases k with
    | zero => simp [leBytes]
    | succ k =>
      rw [leBytes, List.getD_cons_succ, ih _ _ (Nat.lt_of_succ_lt_succ hk), Nat.div_div_eq_div_mul, Nat.pow_succ']

theorem beBytes_getD (n v k : Nat) (hk : k < n) :
    (beBytes n v).getD k 0 = BitVec.ofNat 8 (v / 256 ^ (n - 1 - k)) := by
  rw [← leBytes_getD n v (n - 1 - k) (by omega), beBytes, List.getD_eq_getElem?_getD, List.getD_eq_getElem?_getD,
    List.getElem?_reverse (by simpa using hk), leBytes_length]

/-- Bits 8k+7 : 8k of a register are digit k of its value in base 256. -/
theorem byteAt_eq_digit {w : Nat} (v : BitVec w) (k : Nat) :
    byteAt v (8 * k) = BitVec.ofNat 8 (v.toNat / 256 ^ k) := by
  apply BitVec.eq_of_toNat_eq
  simp [byteAt, Nat.shiftRight_eq_div_pow, Nat.pow_mul]

theorem wideByte_eq_beBytes (v : Wide) {k : Nat} (hk : k < 32) : wideByte v k = (beBytes 32 v.toNat).getD k 0 := by
  rw [beBytes_getD 32 _ k hk, wideByte, byteAt_eq_digit]

theorem wordByte_eq_beBytes (v : Word) {k : Nat} (hk : k < 4) : wordByte v k = (beBytes 4 v.toNat).getD k 0 := by
  rw [beBytes_getD 4 _ k hk, wordByte, byteAt_eq_digit]

/-- Four bytes of a register next to each other are its 32 bits there. -/
theorem wordOfBytes_byteAt {w : Nat} (v : BitVec w) (lo : Nat) :
    wordOfBytes (byteAt v (lo + 24)) (byteAt v (lo + 16)) (byteAt v (lo + 8)) (byteAt v lo) =
      (v >>> lo).setWidth 32 := by
  apply BitVec.eq_of_getLsbD_eq
  intro i hi
  simp only [wordOfBytes, byteAt, BitVec.getLsbD_append, BitVec.getLsbD_setWidth, BitVec.getLsbD_ushiftRight]
  grind

/-- Each byte of a word made of four is the one put there. -/
theorem wordByte_wordOfBytes (f : Nat → Byte) {k : Nat} (hk : k < 4) :
    wordByte (wordOfBytes (f 0) (f 1) (f 2) (f 3)) k = f k := by
  apply BitVec.eq_of_getLsbD_eq
  intro i hi
  simp only [wordByte, wordOfBytes, byteAt, BitVec.getLsbD_append, BitVec.getLsbD_setWidth, BitVec.getLsbD_ushiftRight]
  interval_cases k
  all_goals grind

/-! ## The data page by byte -/

section DataByte
variable (s : State)

theorem dataByte_of_b {a : Nat} (h : 0x100 ≤ a ∧ a < 0x300) :
    dataByte s a = wideByte s.b[bIndex a] (a % 0x20) := by
  rw [dataByte, if_pos ((inB_iff a).mpr h)]

theorem dataByte_of_sh {a : Nat} (h : 0x300 ≤ a ∧ a < 0x320) :
    dataByte s a = wordByte s.sh[shIndex a] (a % 4) := by
  have hb : ¬ inB a = true := mt (inB_iff a).mp (by omega)
  rw [dataByte, if_neg hb, if_pos ((inSh_iff a).mpr h)]

theorem dataByte_of_sw {a : Nat} (h : 0x320 ≤ a ∧ a < 0x360) :
    dataByte s a = wordByte s.sw[swIndex a] (a % 4) := by
  have hb : ¬ inB a = true := mt (inB_iff a).mp (by omega)
  have hsh : ¬ inSh a = true := mt (inSh_iff a).mp (by omega)
  rw [dataByte, if_neg hb, if_neg hsh, if_pos ((inSw_iff a).mpr h)]

theorem dataByte_of_point {a : Nat} (h : 0x400 ≤ a ∧ a < 0x600) :
    dataByte s a = wideByte (if inPy a then s.py[pointIndexAt a] else s.px[pointIndexAt a]) (a % 0x20) := by
  have hb : ¬ inB a = true := mt (inB_iff a).mp (by omega)
  have hsh : ¬ inSh a = true := mt (inSh_iff a).mp (by omega)
  have hsw : ¬ inSw a = true := mt (inSw_iff a).mp (by omega)
  rw [dataByte, if_neg hb, if_neg hsh, if_neg hsw, if_pos ((inPoint_iff a).mpr h)]

theorem dataByte_of_buffer {a : Nat} (h : bufferStart ≤ a ∧ a < bufferEnd) : dataByte s a = memRead s.mem a := by
  have hlo : 0x1000 ≤ a := h.1
  have hb : ¬ inB a = true := mt (inB_iff a).mp (by omega)
  have hsh : ¬ inSh a = true := mt (inSh_iff a).mp (by omega)
  have hsw : ¬ inSw a = true := mt (inSw_iff a).mp (by omega)
  have hp : ¬ inPoint a = true := mt (inPoint_iff a).mp (by omega)
  rw [dataByte, if_neg hb, if_neg hsh, if_neg hsw, if_neg hp, if_pos ((inBuffer_iff a).mpr h)]

/-! ### By register -/

theorem dataByte_b (i : Fin 16) {k : Nat} (hk : k < 32) :
    dataByte s (0x100 + 0x20 * i.val + k) = wideByte s.b[i] k := by
  have hi := i.isLt
  generalize ha : 0x100 + 0x20 * i.val + k = a
  have hindex : bIndex a = i := Fin.ext (show (a - 0x100) / 0x20 % 16 = i.val by omega)
  have hbyte : a % 0x20 = k := by omega
  simp only [dataByte_of_b s (a := a) (by omega), hindex, hbyte]

theorem dataByte_px (i : Fin 8) {k : Nat} (hk : k < 32) :
    dataByte s (0x400 + 0x40 * i.val + k) = wideByte s.px[i] k := by
  have hi := i.isLt
  generalize ha : 0x400 + 0x40 * i.val + k = a
  have hindex : pointIndexAt a = i := Fin.ext (show (a - 0x400) / 0x40 % 8 = i.val by omega)
  have hhalf : inPy a = false := decide_eq_false (by omega)
  have hbyte : a % 0x20 = k := by omega
  simp only [dataByte_of_point s (a := a) (by omega), hindex, hhalf, hbyte]
  rfl

theorem dataByte_py (i : Fin 8) {k : Nat} (hk : k < 32) :
    dataByte s (0x420 + 0x40 * i.val + k) = wideByte s.py[i] k := by
  have hi := i.isLt
  generalize ha : 0x420 + 0x40 * i.val + k = a
  have hindex : pointIndexAt a = i := Fin.ext (show (a - 0x400) / 0x40 % 8 = i.val by omega)
  have hhalf : inPy a = true := decide_eq_true (by omega)
  have hbyte : a % 0x20 = k := by omega
  simp only [dataByte_of_point s (a := a) (by omega), hindex, hhalf, hbyte]
  rfl

theorem dataByte_sh (i : Fin 8) {k : Nat} (hk : k < 4) :
    dataByte s (0x300 + 4 * i.val + k) = wordByte s.sh[i] k := by
  have hi := i.isLt
  generalize ha : 0x300 + 4 * i.val + k = a
  have hindex : shIndex a = i := Fin.ext (show (a - 0x300) / 4 % 8 = i.val by omega)
  have hbyte : a % 4 = k := by omega
  simp only [dataByte_of_sh s (a := a) (by omega), hindex, hbyte]

theorem dataByte_sw (i : Fin 16) {k : Nat} (hk : k < 4) :
    dataByte s (0x320 + 4 * i.val + k) = wordByte s.sw[i] k := by
  have hi := i.isLt
  generalize ha : 0x320 + 4 * i.val + k = a
  have hindex : swIndex a = i := Fin.ext (show (a - 0x320) / 4 % 16 = i.val by omega)
  have hbyte : a % 4 = k := by omega
  simp only [dataByte_of_sw s (a := a) (by omega), hindex, hbyte]

end DataByte

/-! ## The data page by word -/

theorem readValue_word (s : State) {a : Nat} (ha : 0x100 ≤ a) :
    readValue s a 4 =
      wordOfBytes (dataByte s a) (dataByte s (a + 1)) (dataByte s (a + 2)) (dataByte s (a + 3)) := by
  have hc : ¬ inControl a = true := by simp only [inControl, decide_eq_true_eq]; omega
  rw [readValue, if_neg (by decide), if_neg hc]

/-- A word read in the window of a 256-bit register (R71). -/
theorem readValue_wide {s : State} {base : Nat} {v : Wide} (hbase : 0x100 ≤ base)
    (hbytes : ∀ k < 32, dataByte s (base + k) = wideByte v k) {j : Nat} (hj : j < 8) :
    readValue s (base + 4 * j) 4 = (v >>> (224 - 32 * j)).setWidth 32 := by
  rw [readValue_word s (by omega), Nat.add_assoc, Nat.add_assoc, Nat.add_assoc, hbytes _ (by omega),
    hbytes _ (by omega), hbytes _ (by omega), hbytes _ (by omega), ← wordOfBytes_byteAt]
  simp only [wideByte]
  congr 2
  all_goals omega

/-- A word read in the window of a 32-bit register (R71). -/
theorem readValue_register {s : State} {base : Nat} {v : Word} (hbase : 0x100 ≤ base)
    (hbytes : ∀ k < 4, dataByte s (base + k) = wordByte v k) : readValue s base 4 = v := by
  have hzero : dataByte s base = wordByte v 0 := hbytes 0 (by decide)
  rw [readValue_word s hbase, hzero, hbytes 1 (by decide), hbytes 2 (by decide), hbytes 3 (by decide)]
  exact (wordOfBytes_byteAt v 0).trans (by simp)

/-- A word read in the buffers is its four bytes, the first in bits 31:24 (R71). -/
theorem readValue_buffer (s : State) {a k : Nat} (hlo : bufferStart ≤ a) (hhi : a + 3 < bufferEnd) (hk : k < 4) :
    (readValue s a 4 >>> (8 * (3 - k))).setWidth 8 = memRead s.mem (a + k) := by
  have hlo' : 0x1000 ≤ a := hlo
  rw [← dataByte_of_buffer s ⟨by omega, by omega⟩, readValue_word s (by omega)]
  exact wordByte_wordOfBytes (fun j => dataByte s (a + j)) hk

/-- Settles O22: each window by bytes from its register's rule, and by words from its bytes. -/
theorem registerByteViews : Obligations.RegisterByteViews := by
  intro s
  refine ⟨fun i k hk => ?_, fun i k hk => ⟨?_, ?_⟩, fun i k hk => ?_, fun i k hk => ?_, fun a ha => ?_,
    fun a ha => ?_, fun i j hj => ?_, fun i j hj => ⟨?_, ?_⟩, fun i => ?_, fun i => ?_, fun j k hj hk => ?_, fun j k hj hk => ?_⟩
  · rw [dataByte_b s i hk, wideByte_eq_beBytes _ hk]
  · rw [dataByte_px s i hk, wideByte_eq_beBytes _ hk]
  · rw [dataByte_py s i hk, wideByte_eq_beBytes _ hk]
  · rw [dataByte_sh s i hk, wordByte_eq_beBytes _ hk]
  · rw [dataByte_sw s i hk, wordByte_eq_beBytes _ hk]
  · exact dataByte_of_buffer s (by unfold bufferStart bufferEnd; omega)
  · exact dataByte_of_buffer s (by unfold bufferStart bufferEnd; omega)
  · exact readValue_wide (by omega) (fun _ hk => dataByte_b s i hk) hj
  · exact readValue_wide (by omega) (fun _ hk => dataByte_px s i hk) hj
  · exact readValue_wide (by omega) (fun _ hk => dataByte_py s i hk) hj
  · exact readValue_register (by omega) fun _ hk => dataByte_sh s i hk
  · exact readValue_register (by omega) fun _ hk => dataByte_sw s i hk
  · exact readValue_buffer s (by unfold bufferStart; omega) (by unfold bufferEnd; omega) hk
  · exact readValue_buffer s (by unfold bufferStart; omega) (by unfold bufferEnd; omega) hk

end Sys2Proof.Machine

/-! # Bus errors, reserved offsets and data writes (20_memory.md R71 to R75) -/

namespace Sys2Proof.Machine

/-! ## Where no data register or buffer byte lies -/

theorem outside_windows {a : Nat} (h : ¬ DataOffset a) :
    inB a = false ∧ inSh a = false ∧ inSw a = false ∧ inPoint a = false ∧ inBuffer a = false := by
  unfold DataOffset at h
  refine ⟨?_, ?_, ?_, ?_, ?buffer⟩
  case buffer => exact decide_eq_false (by unfold bufferStart bufferEnd; omega)
  all_goals exact decide_eq_false (by omega)

/-- An offset without engine-operand data reads as the byte 0 (R75). -/
theorem dataByte_of_not_data (s : State) {a : Nat} (h : ¬ DataOffset a) : dataByte s a = 0 := by
  obtain ⟨hb, hsh, hsw, hp, hbuf⟩ := outside_windows h
  simp [dataByte, hb, hsh, hsw, hp, hbuf]

/-- A byte stored at an offset without engine-operand data is ignored (R75). -/
theorem storeByte_of_not_data (s : State) {a : Nat} (h : ¬ DataOffset a) (v : Byte) : storeByte s a v = s := by
  obtain ⟨hb, hsh, hsw, hp, hbuf⟩ := outside_windows h
  simp [storeByte, hb, hsh, hsw, hp, hbuf]

/-- A legal access is one byte of the data page or one aligned word. -/
theorem legal_access_cases {a width : Nat} (h : ¬ BadAccess a width) :
    (width = 1 ∧ 0x100 ≤ a) ∨ (width = 4 ∧ a % 4 = 0) := by
  unfold BadAccess at h
  omega

/-- The data ranges begin and end at multiples of 4, so an aligned word lies inside one or outside them all. -/
theorem dataOffset_word_iff {a k : Nat} (hal : a % 4 = 0) (hk : k < 4) : DataOffset (a + k) ↔ DataOffset a := by
  unfold DataOffset
  omega

/-- A legal write at an offset without engine-operand data stores nothing there. -/
theorem storeData_of_not_data (s : State) {a width : Nat} (hok : ¬ BadAccess a width) (h : ¬ DataOffset a) (v : Word) :
    storeData s a width v = s := by
  rcases legal_access_cases hok with ⟨rfl, -⟩ | ⟨rfl, hal⟩
  · exact storeByte_of_not_data s h _
  · have hbyte : ∀ k < 4, ¬ DataOffset (a + k) := fun k hk => mt (dataOffset_word_iff hal hk).mp h
    rw [storeData, if_neg (by decide), storeByte_of_not_data s h, storeByte_of_not_data s (hbyte 1 (by decide)),
      storeByte_of_not_data s (hbyte 2 (by decide)), storeByte_of_not_data s (hbyte 3 (by decide))]

theorem controlWord_of_reserved (s : State) {a : Nat} (h : 0x28 ≤ a) : controlWord s a = 0 := by
  unfold controlWord
  split
  case h_11 => rfl
  all_goals omega

theorem writeControl_of_reserved (s : State) {a : Nat} (h : 0x28 ≤ a) (v : Word) : writeControl s a v = s := by
  unfold writeControl
  split
  case h_8 => rfl
  all_goals omega

theorem reservedOffset_ge {a : Nat} (h : ReservedOffset a) : 0x28 ≤ a := by
  unfold ReservedOffset at h
  omega

theorem not_dataOffset_of_reserved {a : Nat} (h : ReservedOffset a) : ¬ DataOffset a := by
  unfold ReservedOffset at h
  unfold DataOffset
  omega

theorem isOperand_of_reserved {a : Nat} (h : ReservedOffset a) : isOperand a = false := by
  rw [Bool.eq_false_iff, ne_eq, isOperand_iff]
  unfold ReservedOffset at h
  unfold OperandOffset DataOffset
  omega

theorem isResult_of_reserved {a : Nat} (h : ReservedOffset a) : isResult a = false := by
  rw [Bool.eq_false_iff, ne_eq, isResult_iff]
  unfold ReservedOffset at h
  unfold ResultOffset
  omega

/-- A legal read at a reserved offset finds 0, in the control page and in the data page (R75). -/
theorem readValue_of_reserved (s : State) {a width : Nat} (hok : ¬ BadAccess a width) (h : ReservedOffset a) :
    readValue s a width = 0 := by
  have hdata : ¬ DataOffset a := not_dataOffset_of_reserved h
  rcases legal_access_cases hok with ⟨rfl, -⟩ | ⟨rfl, hal⟩
  · rw [readValue, if_pos rfl, dataByte_of_not_data s hdata]
    rfl
  · have hbyte : ∀ k < 4, ¬ DataOffset (a + k) := fun k hk => mt (dataOffset_word_iff hal hk).mp hdata
    rw [readValue, if_neg (by decide), controlWord_of_reserved s (reservedOffset_ge h), dataByte_of_not_data s hdata,
      dataByte_of_not_data s (hbyte 1 (by decide)), dataByte_of_not_data s (hbyte 2 (by decide)),
      dataByte_of_not_data s (hbyte 3 (by decide))]
    exact ite_self 0

/-! ## Bus errors, and the flag after every other access -/

theorem hostWrite_busError (s : State) {a width : Nat} (h : BadAccess a width) (v : Word) :
    hostWrite s a width v = setBuserr s := by
  rw [hostWrite, if_pos ((busError_iff a width).mpr h)]

theorem hostRead_busError (s : State) {a width : Nat} (h : BadAccess a width) :
    hostRead s a width = { setBuserr s with reads := 0 :: s.reads } := by
  rw [hostRead, if_pos ((busError_iff a width).mpr h)]

/-- A legal write in the data page that is not dropped. -/
theorem hostWrite_data {s : State} {a width : Nat} (v : Word) (hok : busError a width = false)
    (hop : (s.status.busy && isOperand a) = false) (hc : inControl a = false) :
    hostWrite s a width v = storeData s a width v := by
  simp [hostWrite, hok, hop, hc]

/-- `t` is `s` but for the data registers and the buffers. -/
def SameButData (s t : State) : Prop :=
  t = { s with b := t.b, px := t.px, py := t.py, sh := t.sh, sw := t.sw, mem := t.mem }

theorem SameButData.trans {s t u : State} (hst : SameButData s t) (htu : SameButData t u) : SameButData s u := by
  unfold SameButData at htu
  rw [hst] at htu
  exact htu

theorem storeByte_sameButData (s : State) (a : Nat) (v : Byte) : SameButData s (storeByte s a v) := by
  unfold storeByte
  repeat' split
  all_goals exact rfl

theorem storeData_sameButData (s : State) (a width : Nat) (v : Word) : SameButData s (storeData s a width v) := by
  unfold storeData
  split
  · exact storeByte_sameButData s a _
  · exact (((storeByte_sameButData s a _).trans (storeByte_sameButData _ _ _)).trans
      (storeByte_sameButData _ _ _)).trans (storeByte_sameButData _ _ _)

theorem storeData_status (s : State) (a width : Nat) (v : Word) : (storeData s a width v).status = s.status := by
  rw [storeData_sameButData s a width v]

/-- A control write never sets BUSERR: only the W1C write touches it, and clears it. -/
theorem writeControl_buserr {s : State} {a : Nat} {v : Word} (h : (writeControl s a v).status.buserr = true) :
    s.status.buserr = true := by
  unfold writeControl at h
  split at h
  case h_1 => exact (Bool.and_eq_true_iff.mp h).1
  case h_2 =>
    unfold writeCmd at h
    split at h
    all_goals exact h
  all_goals exact h

theorem hostWrite_buserr {s : State} {a width : Nat} {v : Word} (hok : busError a width = false)
    (h : (hostWrite s a width v).status.buserr = true) : s.status.buserr = true := by
  cases hop : s.status.busy && isOperand a with
  | true =>
    rw [hostWrite_dropped v hok hop] at h
    exact h
  | false =>
    cases hc : inControl a with
    | true =>
      rw [hostWrite_control v hok hop hc] at h
      exact writeControl_buserr h
    | false =>
      rwa [hostWrite_data v hok hop hc, storeData_status] at h

theorem hostRead_buserr {s : State} {a width : Nat} (hok : busError a width = false) :
    (hostRead s a width).status.buserr = s.status.buserr := by
  cases hfree : s.status.busy && isResult a with
  | true => rw [hostRead_drawn hok hfree]
  | false => rw [hostRead_value hok hfree]

/-- Settles O18: the bus-error branch of a write and of a read, and BUSERR after every other access. -/
theorem busErrors : Obligations.BusErrors := by
  intro s off width v hr
  rw [hostEvent_write hr, hostEvent_read hr]
  refine ⟨fun hbad => ?_, fun hok => ⟨hostWrite_buserr (busError_eq_false hok), hostRead_buserr (busError_eq_false hok)⟩⟩
  rw [hostWrite_busError s hbad, hostRead_busError s hbad]
  exact ⟨rfl, rfl, rfl, rfl⟩

/-- Settles O23: a reserved offset reads 0 whether it lies in the control or the data page, and nothing is stored. -/
theorem reservedOffsets : Obligations.ReservedOffsets := by
  intro s off width v hr hres
  rw [hostEvent_write hr, hostEvent_read hr]
  refine ⟨fun hok => ⟨?read, ?write⟩, fun hbad => by rw [hostWrite_busError s hbad]; rfl⟩
  case read =>
    rw [hostRead_value (busError_eq_false hok) (by rw [isResult_of_reserved hres, Bool.and_false]),
      readValue_of_reserved s hok hres]
  case write =>
    have hop : (s.status.busy && isOperand off.toNat) = false := by rw [isOperand_of_reserved hres, Bool.and_false]
    cases hc : inControl off.toNat with
    | true =>
      rw [hostWrite_control v (busError_eq_false hok) hop hc, writeControl_of_reserved s (reservedOffset_ge hres)]
    | false =>
      rw [hostWrite_data v (busError_eq_false hok) hop hc,
        storeData_of_not_data s hok (not_dataOffset_of_reserved hres)]

end Sys2Proof.Machine

/-! # A data write reads back (20_memory.md R71, R74) -/

namespace Sys2Proof.Machine

/-! ## One byte of a register stored -/

theorem getLsbD_setByteAt {w : Nat} (v : BitVec w) (lo : Nat) (b : Byte) (i : Nat) :
    (setByteAt v lo b).getLsbD i =
      (decide (i < w) && if lo ≤ i ∧ i < lo + 8 then b.getLsbD (i - lo) else v.getLsbD i) := by
  have hones : (0xFF#8) = BitVec.allOnes 8 := rfl
  simp only [setByteAt, hones, BitVec.getLsbD_or, BitVec.getLsbD_and, BitVec.getLsbD_not, BitVec.getLsbD_shiftLeft,
    BitVec.getLsbD_setWidth, BitVec.getLsbD_allOnes]
  have hv : w ≤ i → v.getLsbD i = false := BitVec.getLsbD_of_ge v i
  have hb : 8 ≤ i - lo → b.getLsbD (i - lo) = false := BitVec.getLsbD_of_ge b (i - lo)
  grind

/-- Byte q of a register after byte p is stored, bytes counted from the low end. -/
theorem byteAt_setByteAt {w : Nat} (v : BitVec w) {p : Nat} (hp : 8 * p + 8 ≤ w) (b : Byte) (q : Nat) :
    byteAt (setByteAt v (8 * p) b) (8 * q) = if q = p then b else byteAt v (8 * q) := by
  apply BitVec.eq_of_getLsbD_eq
  intro i hi
  simp only [byteAt, BitVec.getLsbD_setWidth, BitVec.getLsbD_ushiftRight, getLsbD_setByteAt]
  by_cases hq : q = p
  · have hin : 8 * p ≤ 8 * p + i ∧ 8 * p + i < 8 * p + 8 := by omega
    have hw : 8 * p + i < w := by omega
    simp [hq, hin, hw, hi]
  · have hout : ¬ (8 * p ≤ 8 * q + i ∧ 8 * q + i < 8 * p + 8) := by omega
    have hw : w ≤ 8 * q + i → v.getLsbD (8 * q + i) = false := BitVec.getLsbD_of_ge v _
    simp only [if_neg hq, if_neg hout, BitVec.getLsbD_setWidth, BitVec.getLsbD_ushiftRight]
    grind

/-- Byte q of register j of a file after byte p of register i is stored. -/
theorem byteAt_set_register {w n : Nat} (regs : Vector (BitVec w) n) (i j : Fin n) {p : Nat} (hp : 8 * p + 8 ≤ w)
    (b : Byte) (q : Nat) :
    byteAt (regs.set i (setByteAt regs[i] (8 * p) b))[j] (8 * q) =
      if j = i ∧ q = p then b else byteAt regs[j] (8 * q) := by
  by_cases hij : j = i
  · subst hij
    simp only [Fin.getElem_fin, Vector.getElem_set_self, byteAt_setByteAt _ hp, true_and]
  · have hne : i.val ≠ j.val := fun h => hij (Fin.ext h.symm)
    simp only [Fin.getElem_fin, Vector.getElem_set_ne _ _ hne, hij, false_and, if_false]

/-! ## The store of one byte, by window -/

section StoreByte
variable (s : State) {a : Nat} (v : Byte)

theorem storeByte_of_b (h : 0x100 ≤ a ∧ a < 0x300) :
    storeByte s a v = { s with b := s.b.set (bIndex a) (setWideByte s.b[bIndex a] (a % 0x20) v) } := by
  rw [storeByte, if_pos ((inB_iff a).mpr h)]

theorem storeByte_of_sh (h : 0x300 ≤ a ∧ a < 0x320) :
    storeByte s a v = { s with sh := s.sh.set (shIndex a) (setWordByte s.sh[shIndex a] (a % 4) v) } := by
  have hb : ¬ inB a = true := mt (inB_iff a).mp (by omega)
  rw [storeByte, if_neg hb, if_pos ((inSh_iff a).mpr h)]

theorem storeByte_of_sw (h : 0x320 ≤ a ∧ a < 0x360) :
    storeByte s a v = { s with sw := s.sw.set (swIndex a) (setWordByte s.sw[swIndex a] (a % 4) v) } := by
  have hb : ¬ inB a = true := mt (inB_iff a).mp (by omega)
  have hsh : ¬ inSh a = true := mt (inSh_iff a).mp (by omega)
  rw [storeByte, if_neg hb, if_neg hsh, if_pos ((inSw_iff a).mpr h)]

theorem storeByte_of_point (h : 0x400 ≤ a ∧ a < 0x600) :
    storeByte s a v =
      if inPy a then
        { s with py := s.py.set (pointIndexAt a) (setWideByte s.py[pointIndexAt a] (a % 0x20) v) }
      else { s with px := s.px.set (pointIndexAt a) (setWideByte s.px[pointIndexAt a] (a % 0x20) v) } := by
  have hb : ¬ inB a = true := mt (inB_iff a).mp (by omega)
  have hsh : ¬ inSh a = true := mt (inSh_iff a).mp (by omega)
  have hsw : ¬ inSw a = true := mt (inSw_iff a).mp (by omega)
  rw [storeByte, if_neg hb, if_neg hsh, if_neg hsw, if_pos ((inPoint_iff a).mpr h)]

theorem storeByte_of_buffer (h : bufferStart ≤ a ∧ a < bufferEnd) :
    storeByte s a v = { s with mem := memWrite s.mem a v } := by
  have hlo : 0x1000 ≤ a := h.1
  have hb : ¬ inB a = true := mt (inB_iff a).mp (by omega)
  have hsh : ¬ inSh a = true := mt (inSh_iff a).mp (by omega)
  have hsw : ¬ inSw a = true := mt (inSw_iff a).mp (by omega)
  have hp : ¬ inPoint a = true := mt (inPoint_iff a).mp (by omega)
  rw [storeByte, if_neg hb, if_neg hsh, if_neg hsw, if_neg hp, if_pos ((inBuffer_iff a).mpr h)]

/-! ## Reading back one stored byte

In the window of the store, an offset names the byte stored exactly where its register and its byte there are the same;
the other windows read none of the registers written. -/

variable (k : Nat)

theorem dataByte_storeByte_b (ha : 0x100 ≤ a ∧ a < 0x300) :
    dataByte (storeByte s a v) k = if k = a then v else dataByte s k := by
  rw [storeByte_of_b s v ha]
  by_cases hk : 0x100 ≤ k ∧ k < 0x300
  · have hsame : (bIndex k = bIndex a ∧ 31 - k % 0x20 = 31 - a % 0x20) ↔ k = a := by
      simp only [bIndex, Fin.ext_iff, Fin.val_ofNat]
      omega
    simp only [dataByte_of_b _ hk, wideByte, setWideByte]
    rw [byteAt_set_register _ _ _ (by omega)]
    simp only [hsame]
  · have hout : inB k = false := decide_eq_false hk
    rw [if_neg (by omega)]
    simp [dataByte, hout]

theorem dataByte_storeByte_sh (ha : 0x300 ≤ a ∧ a < 0x320) :
    dataByte (storeByte s a v) k = if k = a then v else dataByte s k := by
  rw [storeByte_of_sh s v ha]
  by_cases hk : 0x300 ≤ k ∧ k < 0x320
  · have hsame : (shIndex k = shIndex a ∧ 3 - k % 4 = 3 - a % 4) ↔ k = a := by
      simp only [shIndex, Fin.ext_iff, Fin.val_ofNat]
      omega
    simp only [dataByte_of_sh _ hk, wordByte, setWordByte]
    rw [byteAt_set_register _ _ _ (by omega)]
    simp only [hsame]
  · have hout : inSh k = false := decide_eq_false hk
    rw [if_neg (by omega)]
    simp [dataByte, hout]

theorem dataByte_storeByte_sw (ha : 0x320 ≤ a ∧ a < 0x360) :
    dataByte (storeByte s a v) k = if k = a then v else dataByte s k := by
  rw [storeByte_of_sw s v ha]
  by_cases hk : 0x320 ≤ k ∧ k < 0x360
  · have hsame : (swIndex k = swIndex a ∧ 3 - k % 4 = 3 - a % 4) ↔ k = a := by
      simp only [swIndex, Fin.ext_iff, Fin.val_ofNat]
      omega
    simp only [dataByte_of_sw _ hk, wordByte, setWordByte]
    rw [byteAt_set_register _ _ _ (by omega)]
    simp only [hsame]
  · have hout : inSw k = false := decide_eq_false hk
    rw [if_neg (by omega)]
    simp [dataByte, hout]

theorem dataByte_storeByte_point (ha : 0x400 ≤ a ∧ a < 0x600) :
    dataByte (storeByte s a v) k = if k = a then v else dataByte s k := by
  rw [storeByte_of_point s v ha]
  by_cases hk : 0x400 ≤ k ∧ k < 0x600
  · have hsame : inPy k = inPy a → ((pointIndexAt k = pointIndexAt a ∧ 31 - k % 0x20 = 31 - a % 0x20) ↔ k = a) := by
      simp only [inPy, decide_eq_decide, pointIndexAt, Fin.ext_iff, Fin.val_ofNat]
      omega
    simp only [dataByte_of_point _ hk, wideByte, setWideByte]
    by_cases hhalf : inPy k = inPy a
    · rw [hhalf]
      cases inPy a
      all_goals
        simp only [Bool.false_eq_true, if_true, if_false]
        rw [byteAt_set_register _ _ _ (by omega)]
        simp only [hsame hhalf]
    · have hne : k ≠ a := fun h => hhalf (congrArg inPy h)
      rw [if_neg hne]
      cases hka : inPy k
      all_goals simp_all
  · have hout : inPoint k = false := decide_eq_false hk
    have hne : ¬ k = a := by omega
    rw [if_neg hne]
    split
    all_goals simp [dataByte, hout]

theorem dataByte_storeByte_buffer (hmem : s.mem.wf) (ha : bufferStart ≤ a ∧ a < bufferEnd) :
    dataByte (storeByte s a v) k = if k = a then v else dataByte s k := by
  rw [storeByte_of_buffer s v ha]
  by_cases hk : bufferStart ≤ k ∧ k < bufferEnd
  · rw [dataByte_of_buffer _ hk, dataByte_of_buffer _ hk]
    exact memRead_memWrite s.mem hmem.1 a v k
  · have hout : inBuffer k = false := decide_eq_false hk
    have hne : k ≠ a := fun h => hk (h ▸ ha)
    rw [if_neg hne]
    simp [dataByte, hout]

theorem dataByte_storeByte (hmem : s.mem.wf) (ha : DataOffset a) :
    dataByte (storeByte s a v) k = if k = a then v else dataByte s k := by
  have hwindow : (0x100 ≤ a ∧ a < 0x300) ∨ (0x300 ≤ a ∧ a < 0x320) ∨ (0x320 ≤ a ∧ a < 0x360) ∨
      (0x400 ≤ a ∧ a < 0x600) ∨ (bufferStart ≤ a ∧ a < bufferEnd) := by
    unfold DataOffset at ha
    unfold bufferStart bufferEnd
    omega
  rcases hwindow with h | h | h | h | h
  · exact dataByte_storeByte_b s v k h
  · exact dataByte_storeByte_sh s v k h
  · exact dataByte_storeByte_sw s v k h
  · exact dataByte_storeByte_point s v k h
  · exact dataByte_storeByte_buffer s v k hmem h

end StoreByte

theorem storeByte_mem_wf {s : State} (hmem : s.mem.wf) (a : Nat) (v : Byte) : (storeByte s a v).mem.wf := by
  rcases storeByte_mem_cases s a v with h | ⟨hlo, hhi, h⟩
  · exact h ▸ hmem
  · exact h ▸ memWrite_wf hmem hlo hhi v

/-! ## One access stored -/

/-- A word stored reads back byte by byte, most significant first, and leaves every other byte (R71, R74). -/
theorem dataByte_storeData_word {s : State} (hmem : s.mem.wf) {a : Nat} (ha : DataOffset a) (hal : a % 4 = 0)
    (v : Word) (k : Nat) :
    dataByte (storeData s a 4 v) k = if a ≤ k ∧ k < a + 4 then wordByte v (k - a) else dataByte s k := by
  have hbyte : ∀ j < 4, DataOffset (a + j) := fun j hj => (dataOffset_word_iff hal hj).mpr ha
  have hmem1 := storeByte_mem_wf hmem a (wordByte v 0)
  have hmem2 := storeByte_mem_wf hmem1 (a + 1) (wordByte v 1)
  have hmem3 := storeByte_mem_wf hmem2 (a + 2) (wordByte v 2)
  rw [storeData, if_neg (by decide), dataByte_storeByte _ _ _ hmem3 (hbyte 3 (by decide)),
    dataByte_storeByte _ _ _ hmem2 (hbyte 2 (by decide)), dataByte_storeByte _ _ _ hmem1 (hbyte 1 (by decide)),
    dataByte_storeByte _ _ _ hmem ha]
  by_cases hk : a ≤ k ∧ k < a + 4
  · obtain ⟨j, rfl⟩ := Nat.exists_eq_add_of_le hk.1
    have hj : j < 4 := by omega
    interval_cases j
    all_goals simp
  · rw [if_neg hk, if_neg (by omega), if_neg (by omega), if_neg (by omega), if_neg (by omega)]

/-- Settles O21: the access is stored byte by byte, and each store reads back at its own offset alone. -/
theorem dataWriteReadsBack : Obligations.DataWriteReadsBack := by
  intro s off width v hr hb hmem hok hdata
  have hpage : inControl off.toNat = false := decide_eq_false (by unfold DataOffset at hdata; omega)
  have hstore : hostEvent s (.write off width v) = storeData s off.toNat width v := by
    rw [hostEvent_write hr, hostWrite_data v (busError_eq_false hok) (by rw [hb, Bool.false_and]) hpage]
  refine ⟨_, hstore, storeData_sameButData s _ _ _, ?byte, ?word, ?others⟩
  case byte =>
    rintro rfl
    rw [storeData, if_pos rfl, dataByte_storeByte s _ _ hmem hdata, if_pos rfl]
  case word =>
    rintro rfl k hk
    have hal : off.toNat % 4 = 0 := by unfold BadAccess at hok; omega
    rw [dataByte_storeData_word hmem hdata hal, if_pos (by omega), Nat.add_sub_cancel_left]
    rfl
  case others =>
    intro k hk
    rcases legal_access_cases hok with ⟨rfl, -⟩ | ⟨rfl, hal⟩
    · rw [storeData, if_pos rfl, dataByte_storeByte s _ _ hmem hdata, if_neg (by omega)]
    · rw [dataByte_storeData_word hmem hdata hal, if_neg (by omega)]

end Sys2Proof.Machine

/-! # A command's work depends on the state at acceptance alone (10_state.md R42, R49, R52; 20_memory.md R81) -/

namespace Sys2Proof.Machine

/-! ## What the host does while a command runs -/

theorem SameWork.refl (s : State) : SameWork s s :=
  ⟨rfl, rfl, rfl, rfl, rfl, rfl, rfl, rfl, rfl, rfl, rfl, rfl, rfl, rfl, rfl, rfl, rfl, rfl, rfl⟩

theorem sameWork_hostRead (s : State) (a width : Nat) : SameWork s (hostRead s a width) := by
  unfold hostRead
  repeat' split
  all_goals exact SameWork.refl s

/-- While BUSY a control write that is not dropped changes sticky flags, DONE or DONEIE at most (R49). -/
theorem sameWork_writeControl {s : State} (hb : s.status.busy = true) {a : Nat} (hop : isOperand a = false) (v : Word) :
    SameWork s (writeControl s a v) := by
  unfold writeControl
  split
  case h_1 => exact SameWork.refl s
  case h_2 =>
    rw [writeCmd_busy hb]
    exact SameWork.refl s
  case h_3 => exact SameWork.refl s
  case h_8 => exact SameWork.refl s
  all_goals exact Bool.noConfusion hop

theorem sameWork_hostWrite {s : State} (hb : s.status.busy = true) (a width : Nat) (v : Word) :
    SameWork s (hostWrite s a width v) := by
  by_cases hbad : BadAccess a width
  · rw [hostWrite_busError s hbad]
    exact SameWork.refl s
  cases hop : isOperand a with
  | true =>
    rw [hostWrite_dropped v (busError_eq_false hbad) (by rw [hb, hop]; rfl)]
    exact SameWork.refl s
  | false =>
    have hop' : (s.status.busy && isOperand a) = false := by rw [hop, Bool.and_false]
    cases hc : inControl a with
    | true =>
      rw [hostWrite_control v (busError_eq_false hbad) hop' hc]
      exact sameWork_writeControl hb hop v
    | false =>
      have hdata : ¬ DataOffset a := fun h =>
        Bool.eq_false_iff.mp hop ((isOperand_iff a).mpr (.inr (.inr (.inr (.inr h)))))
      rw [hostWrite_data v (busError_eq_false hbad) hop' hc, storeData_of_not_data s hbad hdata]
      exact SameWork.refl s

theorem sameWork_hostEvent {s : State} (hb : s.status.busy = true) {op : HostOp} (hop : op ≠ .assertReset) :
    SameWork s (hostEvent s op) := by
  cases op with
  | read off width =>
    cases hr : s.resetLine with
    | true =>
      rw [hostEvent, if_pos hr]
      exact SameWork.refl s
    | false =>
      rw [hostEvent_read hr]
      exact sameWork_hostRead s _ _
  | write off width v =>
    cases hr : s.resetLine with
    | true =>
      rw [hostEvent, if_pos hr]
      exact SameWork.refl s
    | false =>
      rw [hostEvent_write hr]
      exact sameWork_hostWrite hb _ _ v
  | assertReset => exact absurd rfl hop
  | releaseReset => exact SameWork.refl s

/-! ## The work of a state

Two states agree on the work exactly where they are the same once the rest is cleared. No instruction reads the rest, so
clearing it before an instruction changes nothing of the work after it. -/

/-- The state with all that is no part of a command's work cleared. -/
def workOf (s : State) : State :=
  { s with
    doneie := false, resetLine := false, bus := [], reads := [], draws := 0,
    status := { s.status with done := false, cmdovr := false, wbusy := false, buserr := false } }

theorem sameWork_iff {s t : State} : SameWork s t ↔ workOf s = workOf t := by
  simp only [SameWork, workOf, State.mk.injEq, StatusReg.mk.injEq]
  grind

/-- An answer, seen for its work alone. -/
def resultWork : Result → Result
  | .next s => .next (workOf s)
  | .fault r => .fault r
  | .refused r => .refused r

/-- Two answers of the same work are next states that agree on the work, or none is a next state. -/
theorem sameWork_of_resultWork {r r' : Result} {t : State} (h : resultWork r = resultWork r') (hr : r = .next t) :
    ∃ t', r' = .next t' ∧ SameWork t t' := by
  subst hr
  cases r' with
  | next t' => exact ⟨t', rfl, sameWork_iff.mpr (Host.Outcome.next.inj h)⟩
  | fault f => exact nomatch h
  | refused f => exact nomatch h

/-! ## Operand forms

The rest of the command is handed the same operand values, so its two answers need to agree for equal values only. -/

section Operands
variable {s : State}

theorem rangeChecked_workOf {m : Nat} {i : Fin 16} {k k' : Nat → Result}
    (hk : ∀ a, resultWork (k a) = resultWork (k' a)) :
    resultWork (rangeChecked m s i k) = resultWork (rangeChecked m (workOf s) i k') := by
  change resultWork (if readB s i ≥ m then _ else _) = resultWork (if readB s i ≥ m then _ else _)
  split
  · rfl
  · exact hk _

theorem rangeChecked2_workOf {m : Nat} {ra rb : Fin 16} {k k' : Nat → Nat → Result}
    (hk : ∀ a b, resultWork (k a b) = resultWork (k' a b)) :
    resultWork (rangeChecked2 m s ra rb k) = resultWork (rangeChecked2 m (workOf s) ra rb k') :=
  rangeChecked_workOf fun a => rangeChecked_workOf fun b => hk a b

theorem invertible_workOf {m : Nat} {i : Fin 16} {k k' : Nat → Result}
    (hk : ∀ a, resultWork (k a) = resultWork (k' a)) :
    resultWork (invertible m s i k) = resultWork (invertible m (workOf s) i k') := by
  refine rangeChecked_workOf fun a => ?_
  split
  · rfl
  · exact hk a

theorem validPoint_workOf {i : Fin 8} {k k' : Point → Result} (hk : ∀ q, resultWork (k q) = resultWork (k' q)) :
    resultWork (validPoint s i k) = resultWork (validPoint (workOf s) i k') := by
  change resultWork (if pointValid (readPoint s i) then _ else _) =
    resultWork (if pointValid (readPoint s i) then _ else _)
  split
  · exact hk _
  · rfl

theorem checkedTx_workOf {k k' : Tx → TxIn → Result} (hk : ∀ tx x, resultWork (k tx x) = resultWork (k' tx x)) :
    resultWork (checkedTx s k) = resultWork (checkedTx (workOf s) k') := by
  have htxlen : (workOf s).txlen = s.txlen := rfl
  have hspklen : (workOf s).spklen = s.spklen := rfl
  have htx : txBytes (workOf s) = txBytes s := rfl
  have hinidx : (workOf s).inidx = s.inidx := rfl
  unfold checkedTx
  rw [htxlen, hspklen, htx, hinidx]
  split
  · rfl
  split
  · rfl
  split
  · rfl
  split
  · rfl
  · exact hk _ _

end Operands

/-! ## The script VM -/

section Script
variable (s : State)

theorem withVm_workOf {k k' : Vm → Result} (hk : ∀ v, resultWork (k v) = resultWork (k' v)) :
    resultWork (withVm s k) = resultWork (withVm (workOf s) k') := by
  have hvm : (workOf s).vm = s.vm := rfl
  unfold withVm
  rw [hvm]
  split
  · rfl
  · exact hk _

theorem vmPush_workOf (v : Vm) (stack : List Bytes) (x : Bytes) :
    resultWork (vmPush s v stack x) = resultWork (vmPush (workOf s) v stack x) := by
  unfold vmPush
  split
  · rfl
  split
  · rfl
  · rfl

theorem startScript_workOf (tx : Tx) (sig : Bytes) :
    resultWork (startScript s tx sig) = resultWork (startScript (workOf s) tx sig) := by
  have hspk : spkBytes (workOf s) = spkBytes s := rfl
  unfold startScript
  rw [hspk]
  split
  · rfl
  split
  · rfl
  · rfl

theorem execOpDup_workOf : resultWork (execOpDup s) = resultWork (execOpDup (workOf s)) :=
  withVm_workOf s fun v => by
    split
    · rfl
    · exact vmPush_workOf s _ _ _

theorem execOpHash160_workOf : resultWork (execOpHash160 s) = resultWork (execOpHash160 (workOf s)) :=
  withVm_workOf s fun v => by
    split
    · rfl
    · exact vmPush_workOf s _ _ _

theorem execOpEqualVerify_workOf : resultWork (execOpEqualVerify s) = resultWork (execOpEqualVerify (workOf s)) :=
  withVm_workOf s fun v => by
    split
    · split
      · rfl
      · rfl
    · rfl

theorem execOpCheckSig_workOf : resultWork (execOpCheckSig s) = resultWork (execOpCheckSig (workOf s)) :=
  withVm_workOf s fun v => by
    split
    · split
      · rfl
      · exact vmPush_workOf s _ _ _
    · rfl

/-- An instruction with bytes to push pushes them, in any state. -/
theorem exec_of_pushedBytes {i : Instr} {x : Bytes} (h : pushedBytes i = some x) : exec i s = pushData s x := by
  cases i
  all_goals cases h
  all_goals rfl

/-- An unsupported opcode fails the evaluation, in any state. -/
theorem exec_of_isUnsupported {i : Instr} (h : isUnsupported i = true) : exec i s = badOpcode s := by
  cases i
  all_goals cases h
  all_goals rfl

theorem exec_script_workOf {i : Instr} (hi : (scriptOf i).isSome = true) :
    resultWork (exec i s) = resultWork (exec i (workOf s)) := by
  rcases exec_script_shape hi s with ⟨x, hx, -⟩ | ⟨hu, -⟩ | rfl | rfl | rfl | rfl
  · rw [exec_of_pushedBytes s hx, exec_of_pushedBytes (workOf s) hx]
    exact withVm_workOf s fun v => vmPush_workOf s v v.stack x
  · rw [exec_of_isUnsupported s hu, exec_of_isUnsupported (workOf s) hu]
    exact withVm_workOf s fun _ => rfl
  · exact execOpDup_workOf s
  · exact execOpHash160_workOf s
  · exact execOpEqualVerify_workOf s
  · exact execOpCheckSig_workOf s

end Script

/-! ## The commands of the block -/

section Commands
variable (s : State)

theorem fieldOp2_workOf (m : Nat) (f : Nat → Nat → Nat) (rd ra rb : Fin 16) :
    resultWork (fieldOp2 m f rd ra rb s) = resultWork (fieldOp2 m f rd ra rb (workOf s)) :=
  rangeChecked2_workOf fun _ _ => rfl

theorem fieldInv_workOf (m : Nat) (rd ra : Fin 16) :
    resultWork (fieldInv m rd ra s) = resultWork (fieldInv m rd ra (workOf s)) :=
  invertible_workOf fun _ => rfl

theorem fieldPow_workOf (m : Nat) (rd ra rb : Fin 16) :
    resultWork (fieldPow m rd ra rb s) = resultWork (fieldPow m rd ra rb (workOf s)) :=
  rangeChecked_workOf fun _ => rfl

theorem fieldEq_workOf (m : Nat) (ra rb : Fin 16) :
    resultWork (fieldEq m ra rb s) = resultWork (fieldEq m ra rb (workOf s)) :=
  rangeChecked2_workOf fun _ _ => rfl

theorem execFsqrt_workOf (rd ra : Fin 16) : resultWork (execFsqrt rd ra s) = resultWork (execFsqrt rd ra (workOf s)) :=
  rangeChecked_workOf fun _ => rfl

theorem execLdk_workOf (rd k : Fin 16) : resultWork (execLdk rd k s) = resultWork (execLdk rd k (workOf s)) := by
  unfold execLdk
  split
  · rfl
  · rfl

theorem execEsign_workOf (rd rc ra rb : Fin 16) :
    resultWork (execEsign rd rc ra rb s) = resultWork (execEsign rd rc ra rb (workOf s)) := by
  have hread : ∀ i, readB (workOf s) i = readB s i := fun _ => rfl
  have hnonce : ∀ e z, nonceState (workOf s) e z = nonceState s e z := fun _ _ => rfl
  unfold execEsign
  simp only [hread, hnonce]
  split
  · rfl
  split
  · rfl
  split
  · rfl
  · rfl

theorem execEverify_workOf (pd : Fin 8) (ra rb rc : Fin 16) :
    resultWork (execEverify pd ra rb rc s) = resultWork (execEverify pd ra rb rc (workOf s)) := by
  refine validPoint_workOf fun q => ?_
  change _ = resultWork (if pinfBit s pd = true then _ else _)
  split
  · rfl
  · rfl

theorem writePoint_workOf (i : Fin 8) (q : Point) (r : Bool) :
    resultWork (finish (writePoint s i q) r) = resultWork (finish (writePoint (workOf s) i q) r) := by
  cases q with
  | infinity => rfl
  | affine x y => rfl

theorem exec_command_workOf {i : Instr} (hi : (commandOf i).isSome = true) :
    resultWork (exec i s) = resultWork (exec i (workOf s)) := by
  cases i
  case nop => rfl
  case mov => rfl
  case ldk => exact execLdk_workOf s _ _
  case fadd => exact fieldOp2_workOf s _ _ _ _ _
  case fsub => exact fieldOp2_workOf s _ _ _ _ _
  case fmul => exact fieldOp2_workOf s _ _ _ _ _
  case nadd => exact fieldOp2_workOf s _ _ _ _ _
  case nsub => exact fieldOp2_workOf s _ _ _ _ _
  case nmul => exact fieldOp2_workOf s _ _ _ _ _
  case finv => exact fieldInv_workOf s _ _ _
  case ninv => exact fieldInv_workOf s _ _ _
  case fpow => exact fieldPow_workOf s _ _ _ _
  case npow => exact fieldPow_workOf s _ _ _ _
  case fsqrt => exact execFsqrt_workOf s _ _
  case feq => exact fieldEq_workOf s _ _ _
  case neq => exact fieldEq_workOf s _ _ _
  case fred => rfl
  case nred => rfl
  case padd => exact validPoint_workOf fun _ => validPoint_workOf fun _ => writePoint_workOf s _ _ _
  case pdbl => exact validPoint_workOf fun _ => writePoint_workOf s _ _ _
  case pmul => exact validPoint_workOf fun _ => writePoint_workOf s _ _ _
  case pldg => exact writePoint_workOf s _ _ _
  case pchk => rfl
  case pmov => rfl
  case shainit => rfl
  case shacomp => rfl
  case esign => exact execEsign_workOf s _ _ _ _
  case everify => exact execEverify_workOf s _ _ _ _
  case sighash => exact checkedTx_workOf fun _ _ => rfl
  case script => exact checkedTx_workOf fun _ _ => startScript_workOf s _ _
  all_goals exact Bool.noConfusion hi

end Commands

/-- No instruction's work depends on what `workOf` clears. -/
theorem exec_workOf (i : Instr) (s : State) : resultWork (exec i s) = resultWork (exec i (workOf s)) := by
  rcases command_or_script i with hi | hi
  · exact exec_command_workOf s hi
  · exact exec_script_workOf s hi

/-- Settles O26: a host event while BUSY leaves the work alone, and an instruction's work is that of the state with all
else cleared. -/
theorem commandsSeeOperandsOnly : Obligations.CommandsSeeOperandsOnly := by
  refine ⟨fun s op hb hop => sameWork_hostEvent hb hop, fun i s s' t hs h => ?_⟩
  have hwork : resultWork (exec i s) = resultWork (exec i s') := by
    rw [exec_workOf i s, exec_workOf i s', sameWork_iff.mp hs]
  exact sameWork_of_resultWork hwork h

end Sys2Proof.Machine

/-! # Encoding and decoding of command words (30_encoding.md R100 to R106) -/

namespace Sys2Proof.Machine

/-! ## When each piece of the decoder succeeds -/

@[simp] theorem except_pure_eq_ok {α : Type} {a b : α} : (pure a : Except DecodeError α) = .ok b ↔ a = b := by
  simp [pure, Except.pure]

/-- Two decoders in a row succeed exactly when the first does, and the second on what it read. -/
@[simp] theorem except_bind_eq_ok {α β : Type} {x : Except DecodeError α} {k : α → Except DecodeError β} {b : β} :
    (x >>= k) = .ok b ↔ ∃ a, x = .ok a ∧ k a = .ok b := by
  cases x <;> simp [bind, Except.bind]

@[simp] theorem except_map_eq_ok {α β : Type} {x : Except DecodeError α} {f : α → β} {b : β} :
    f <$> x = .ok b ↔ ∃ a, x = .ok a ∧ f a = b := by
  cases x <;> simp [Functor.map, Except.map]

@[simp] theorem unused_nil (r : Except DecodeError Instr) : unused [] r = r := rfl

@[simp] theorem unused_cons_eq_ok {f : Fin 16} {fields : List (Fin 16)} {r : Except DecodeError Instr} {i : Instr} :
    unused (f :: fields) r = .ok i ↔ f = 0 ∧ unused fields r = .ok i := by
  by_cases h : f = 0 <;> simp [unused, h]

/-- A field is a point index exactly when its bit 3 is zero (R102). -/
theorem exists_pointField {f : Fin 16} : (∃ i, f = pointField i) ↔ f.val < 8 := by
  refine ⟨?_, fun h => ⟨⟨f.val, h⟩, rfl⟩⟩
  rintro ⟨i, rfl⟩
  exact i.isLt

@[simp] theorem pointIndex_pointField (i : Fin 8) : pointIndex (pointField i) = .ok i := dif_pos i.isLt

@[simp] theorem pointIndex_eq_ok {f : Fin 16} {i : Fin 8} : pointIndex f = .ok i ↔ f = pointField i := by
  refine ⟨fun h => ?_, fun h => h ▸ pointIndex_pointField i⟩
  unfold pointIndex at h
  split at h
  · cases h
    rfl
  · cases h

@[simp] theorem decodeLdk_eq_ok {rd k : Fin 16} {i : Instr} :
    decodeLdk rd k = .ok i ↔ k.val ≤ 6 ∧ .ldk rd k = i := by
  by_cases h : k.val ≤ 6 <;> simp [decodeLdk, h]

@[simp] theorem decodeEsign_eq_ok {rd rc ra rb : Fin 16} {i : Instr} :
    decodeEsign rd rc ra rb = .ok i ↔ rd ≠ rc ∧ .esign rd rc ra rb = i := by
  by_cases h : rd = rc <;> simp [decodeEsign, h]

/-- A word decodes exactly when RSV is zero and the row of its OP accepts its fields (R106). -/
theorem decodeCommand_eq_ok {w : Word} {i : Instr} :
    decodeCommand w = .ok i ↔ commandRsv w = 0 ∧
      decodeFields (commandOp w) (commandField w 8) (commandField w 12) (commandField w 16) (commandField w 20) =
        .ok i := by
  by_cases h : commandRsv w = 0 <;> simp [decodeCommand, h]

/-! ## Encode, then decode -/

/-- A command's word decodes to it as soon as its row of R101 gives it back from its own fields. -/
theorem decodeCommand_of_encode {i : Instr} {w : Word} {op : Nat} {rd ra rb rc : Fin 16}
    (h : encode i = .command w) (hfields : encode i = .command (commandWord op rd ra rb rc)) (hop : op < 256)
    (hrow : decodeFields op rd ra rb rc = .ok i) : decodeCommand w = .ok i := by
  obtain rfl : commandWord op rd ra rb rc = w := Encoding.command.inj (hfields.symm.trans h)
  rw [decodeCommand_commandWord op hop, hrow]

/-- Settles O1, row by row: LDK and ESIGN pass their check by well-formedness, a point index is read back from its
field, and every other row gives the fields as they stand. -/
theorem commandEncodeThenDecode : Obligations.CommandEncodeThenDecode := by
  intro i w hwf h
  cases i
  case ldk =>
    exact decodeCommand_of_encode h rfl (by decide) (decodeLdk_eq_ok.mpr ⟨of_decide_eq_true hwf, rfl⟩)
  case esign =>
    exact decodeCommand_of_encode h rfl (by decide) (decodeEsign_eq_ok.mpr ⟨of_decide_eq_true hwf, rfl⟩)
  case padd | pdbl | pmul | pldg | pchk | pmov | everify =>
    exact decodeCommand_of_encode h rfl (by decide) (by simp [decodeFields])
  case nop | mov | fadd | fsub | fmul | finv | fpow | fsqrt | feq | fred | nadd | nsub | nmul | ninv | npow | neq |
      nred | shainit | shacomp | sighash | script =>
    exact decodeCommand_of_encode h rfl (by decide) rfl
  all_goals exact Encoding.noConfusion h

/-! ## Decode, then encode -/

/-- What a row of R101 accepts is well formed, and its encoding has the row's OP and the fields that were read. -/
theorem encode_of_decodeFields {op : Nat} {rd ra rb rc : Fin 16} {i : Instr}
    (h : decodeFields op rd ra rb rc = .ok i) :
    i.wf = true ∧ encode i = .command (commandWord op rd ra rb rc) := by
  unfold decodeFields at h
  split at h
  all_goals
    simp only [unused_cons_eq_ok, unused_nil, except_bind_eq_ok, except_pure_eq_ok, pointIndex_eq_ok,
      decodeLdk_eq_ok, decodeEsign_eq_ok, Except.ok.injEq, reduceCtorEq] at h
  all_goals
    casesm* _ ∧ _, ∃ _, _
    subst_vars
    exact ⟨by simp [Instr.wf, *], rfl⟩

/-- A word with RSV zero is put together again from its OP and its fields (R100). -/
theorem commandWord_fields {w : Word} (hrsv : commandRsv w = 0) :
    commandWord (commandOp w) (commandField w 8) (commandField w 12) (commandField w 16) (commandField w 20) = w := by
  apply BitVec.eq_of_toNat_eq
  rw [commandWord_toNat (commandOp w) (Nat.mod_lt _ (by decide))]
  simp only [commandOp, commandField]
  unfold commandRsv at hrsv
  omega

/-- Settles O2: the row that accepts the fields encodes to them, and they are all of the word. -/
theorem legalWordIsOneCommand : Obligations.LegalWordIsOneCommand := by
  intro w i h
  obtain ⟨hrsv, hfields⟩ := decodeCommand_eq_ok.mp h
  obtain ⟨hwf, henc⟩ := encode_of_decodeFields hfields
  exact ⟨hwf, by rw [henc, commandWord_fields hrsv]⟩

/-! ## Illegal words (R104) -/

/-- The conditions of R104 but (b), on OP and the four fields: `IllegalWord` without RSV, see `illegalWord_iff`. -/
def FieldsIllegal (op : Nat) (rd ra rb rc : Fin 16) : Prop :=
  fieldUses op = none ∨
    (∃ uses, fieldUses op = some uses ∧ ∃ p ∈ uses.zip [rd.val, ra.val, rb.val, rc.val], FieldBroken p.1 p.2) ∨
    (op = 0x02 ∧ 6 < ra.val) ∨
    (op = 0x40 ∧ rd.val = rc.val)

theorem illegalWord_iff (w : Word) :
    IllegalWord w ↔ commandRsv w ≠ 0 ∨
      FieldsIllegal (commandOp w) (commandField w 8) (commandField w 12) (commandField w 16) (commandField w 20) :=
  or_left_comm

@[simp] theorem fieldBroken_sbz {f : Fin 16} : FieldBroken .sbz f.val ↔ f ≠ 0 := by
  simp [FieldBroken]

@[simp] theorem fieldBroken_point {f : Fin 16} : FieldBroken .point f.val ↔ ¬ ∃ i, f = pointField i := by
  simp only [FieldBroken, exists_pointField]
  simp

@[simp] theorem not_fieldBroken_bIndex (v : Nat) : ¬ FieldBroken .bIndex v := by
  simp [FieldBroken]

@[simp] theorem not_fieldBroken_selector (v : Nat) : ¬ FieldBroken .selector v := by
  simp [FieldBroken]

/-- The rows of the decoder accept what the uses of R101's fields allow: row by row, the fields that must be zero and
the point indices are the same ones on both sides. -/
theorem exists_decodeFields_iff (op : Nat) (rd ra rb rc : Fin 16) :
    (∃ i, decodeFields op rd ra rb rc = .ok i) ↔ ¬ FieldsIllegal op rd ra rb rc := by
  unfold decodeFields FieldsIllegal
  split
  all_goals simp [fieldUses, -Prod.exists, -Prod.forall, Fin.val_inj]
  all_goals tauto

theorem illegalWord_iff_not_decoded (w : Word) : IllegalWord w ↔ ¬ ∃ i, decodeCommand w = .ok i := by
  simp only [illegalWord_iff, decodeCommand_eq_ok, exists_and_left, exists_decodeFields_iff, ne_eq, not_and_or,
    not_not]

/-- With no script in progress and a word in CMD that decodes to nothing, the engine fetches no instruction. -/
theorem fetch_illegal {s : State} (hv : s.vm = none) (h : ¬ ∃ i, decodeCommand s.cmd = .ok i) :
    fetch s = .illegal := by
  unfold fetch
  rw [hv]
  cases hd : decodeCommand s.cmd with
  | error e => rfl
  | ok i => exact absurd ⟨i, hd⟩ h

/-- Settles O3: the six conditions against the decoder's rows, the rule of a CMD write, and the fetch of a word that
decodes to nothing. -/
theorem illegalWordsFault : Obligations.IllegalWordsFault := by
  refine ⟨illegalWord_iff_not_decoded, fun s w hr hb => ?_, fun s hb hv hq hill => ?_⟩
  · rw [write_cmd hr, writeCmd_idle hb]
    exact ⟨rfl, rfl⟩
  · have hfetch := fetch_illegal hv ((illegalWord_iff_not_decoded _).mp hill)
    refine ⟨raiseFault s .illegal, ?_, rfl⟩
    rw [step_eq_engineStep hb hq, engineStep_busy hb, hfetch]
    rfl

end Sys2Proof.Machine

/-! # Encoding and decoding of script commands (30_encoding.md R109, R110; 44_script.md R261) -/

namespace Sys2Proof.Machine

/-! ## What each kind of row reads -/

/-- The row of R110's map for a first byte; `decodeScript_cons` says that the decoder reads by it. -/
def scriptRow (b : Byte) : ScriptRow := scriptRows.getD b.toNat (.op .op0)

theorem decodeScript_cons (b : Byte) (bs : Bytes) : decodeScript (b :: bs) = decodeRow (scriptRow b) bs := rfl

theorem decodeRow_op (i : Instr) (rest : Bytes) : decodeRow (.op i) rest = .ok (i, rest) := rfl

theorem splitBytes_append {d : Bytes} {n : Nat} (h : d.length = n) (rest : Bytes) (e : DecodeError) :
    splitBytes n (d ++ rest) e = .ok (d, rest) := by
  subst h
  simp [splitBytes]

theorem decodeRow_push {d : Bytes} {n : Nat} (h : d.length = n) (mk : Bytes → Instr) (rest : Bytes) :
    decodeRow (.push n mk) (d ++ rest) = .ok (mk d, rest) := by
  simp [decodeRow, splitBytes_append h]

/-- A length that its field can say is read back from it, and then that many data bytes. -/
theorem decodeRow_pushData {d : Bytes} {n : Nat} (h : d.length < 256 ^ n) (mk : Bytes → Instr) (rest : Bytes) :
    decodeRow (.pushData n mk) (leBytes n d.length ++ d ++ rest) = .ok (mk d, rest) := by
  have hlength : intLe (leBytes n d.length) = d.length := by rw [intLe_leBytes, Nat.mod_eq_of_lt h]
  simp [decodeRow, splitBytes_append, hlength]

/-! ## Encode, then decode -/

/-- The three forms of R109: an opcode alone, PUSHBYTES_n with its data, and OP_PUSHDATA with its length field and its
data; the row of the first byte is the command's own, and well-formedness is the bound on the data's length. -/
theorem script_command_forms {i : Instr} (h : (scriptOf i).isSome = true) :
    (∃ b, encode i = .script [b] ∧ scriptRow b = .op i) ∨
    (∃ b d n mk, encode i = .script (b :: d) ∧ scriptRow b = .push n mk ∧ i = mk d ∧ i.wf = (d.length == n)) ∨
    (∃ b d n mk, encode i = .script (b :: (leBytes n d.length ++ d)) ∧ scriptRow b = .pushData n mk ∧ i = mk d ∧
      i.wf = decide (d.length < 256 ^ n)) := by
  cases i
  case opPushData1 | opPushData2 | opPushData4 => exact .inr (.inr ⟨_, _, _, _, rfl, rfl, rfl, rfl⟩)
  all_goals first
    | exact .inl ⟨_, rfl, rfl⟩
    | exact .inr (.inl ⟨_, _, _, _, rfl, rfl, rfl, rfl⟩)
    | exact Bool.noConfusion h

/-- Settles O4, form by form of R109. -/
theorem scriptEncodeThenDecode : Obligations.ScriptEncodeThenDecode := by
  intro i bs rest hwf h
  have hscript : (scriptOf i).isSome = true := by rw [scriptOf, h]; rfl
  rcases script_command_forms hscript with
    ⟨b, henc, hrow⟩ | ⟨b, d, n, mk, henc, hrow, rfl, hlen⟩ | ⟨b, d, n, mk, henc, hrow, rfl, hlen⟩
  all_goals
    obtain rfl := Encoding.script.inj (henc.symm.trans h)
    rw [List.cons_append, decodeScript_cons, hrow]
  · exact decodeRow_op i rest
  · exact decodeRow_push (beq_iff_eq.mp (hlen.symm.trans hwf)) mk rest
  · exact decodeRow_pushData (of_decide_eq_true (hlen.symm.trans hwf)) mk rest

/-- Settles O6: each word is the encoding of the command it stands for, and so decodes to it by O1 or O4. -/
theorem handWrittenWordsDecode : Obligations.HandWrittenWordsDecode :=
  ⟨commandEncodeThenDecode .nop _ rfl rfl, commandEncodeThenDecode (.mov 5 2) _ rfl rfl,
    commandEncodeThenDecode (.ldk 1 3) _ rfl rfl, commandEncodeThenDecode (.fsub 1 2 3) _ rfl rfl,
    commandEncodeThenDecode (.pldg 3) _ rfl rfl, commandEncodeThenDecode (.pmul 1 7 15) _ rfl rfl,
    commandEncodeThenDecode .shacomp _ rfl rfl, commandEncodeThenDecode (.esign 1 4 2 3) _ rfl rfl,
    commandEncodeThenDecode (.sighash 12) _ rfl rfl,
    scriptEncodeThenDecode (.pushBytes2 [0xAB, 0xCD]) [0x02, 0xAB, 0xCD] [0x76] rfl rfl,
    scriptEncodeThenDecode (.opPushData2 [0x07]) [0x4D, 0x01, 0x00, 0x07] [] rfl rfl,
    scriptEncodeThenDecode .unsupported87 [0x87] [] rfl rfl⟩

end Sys2Proof.Machine

/-! # The SHA-256 engine (40_sha256.md R132, R133) -/

namespace Sys2Proof.Machine

/-! ## A row of R101 with no field -/

theorem unused_none (rd ra rb rc : Fin 16) (r : Except DecodeError Instr) :
    unused [rd, ra, rb, rc] r = if rd = 0 ∧ ra = 0 ∧ rb = 0 ∧ rc = 0 then r else .error .sbzNonZero := by
  simp [unused]

/-- A row of the decoder that uses none of its fields encodes its command alone (R101, R103). -/
theorem encodesNone_of_unused {op : Nat} {i : Instr} (hop : op < 256)
    (hrow : ∀ rd ra rb rc, decodeFields op rd ra rb rc = unused [rd, ra, rb, rc] (.ok i)) : EncodesNone op i := by
  intro rd ra rb rc
  rw [decodeCommand_commandWord op hop, hrow, unused_none]

/-! ## The schedule by index

The machine keeps a window of the last sixteen words; `refSchedule` keeps all of them. The window after `t` words is
what is left of the whole schedule when its first `t` words are dropped. -/

section Schedule
variable (block : List Word)

theorem refSchedule_zero : refSchedule block 0 = block := rfl

@[simp] theorem refSchedule_length (t : Nat) : (refSchedule block t).length = block.length + t := by
  induction t with
  | zero => rfl
  | succ t ih => simp [refSchedule, ih, Nat.add_assoc]

/-- The word the recurrence of R133 adds is the machine's next word on the window. -/
theorem refSchedule_succ (t : Nat) :
    refSchedule block (t + 1) = refSchedule block t ++ [nextScheduleWord ((refSchedule block t).drop t)] := by
  simp [refSchedule, nextScheduleWord]

/-- Words of the schedule stand once they are there. -/
theorem refSchedule_prefix (t n : Nat) : refSchedule block t <+: refSchedule block (t + n) := by
  induction n with
  | zero => exact List.prefix_rfl
  | succ n ih => exact ih.trans (List.prefix_append _ _)

variable {block}

/-- One word further, the window has lost its first word and gained the next. -/
theorem drop_refSchedule_succ (hb : block ≠ []) (t : Nat) :
    (refSchedule block (t + 1)).drop (t + 1) =
      ((refSchedule block t).drop t).drop 1 ++ [nextScheduleWord ((refSchedule block t).drop t)] := by
  have hpos := List.length_pos_iff.mpr hb
  rw [refSchedule_succ, List.drop_append_of_le_length (by rw [refSchedule_length]; omega), List.drop_drop]

/-- From the window after `t` words, `n` more words of the machine's schedule are those of the whole one from `t` on:
the window's first word is word `t` of every longer schedule, and the window then moves on by one. -/
theorem scheduleFrom_drop_refSchedule (hb : block ≠ []) (n t : Nat) :
    scheduleFrom n ((refSchedule block t).drop t) = (refSchedule block (t + n)).drop t := by
  have hpos := List.length_pos_iff.mpr hb
  induction n generalizing t with
  | zero => rfl
  | succ n ih =>
    have hlt : t < (refSchedule block t).length := by rw [refSchedule_length]; omega
    have hlt' : t < (refSchedule block (t + (n + 1))).length := by rw [refSchedule_length]; omega
    have hfirst : ((refSchedule block t).drop t).getD 0 0 = (refSchedule block (t + (n + 1)))[t] := by
      rw [List.getD_eq_getElem _ _ (by rw [List.length_drop]; omega), List.getElem_drop]
      exact (refSchedule_prefix block t (n + 1)).getElem _
    rw [scheduleFrom, hfirst, ← drop_refSchedule_succ hb, ih, Nat.add_right_comm, Nat.add_assoc,
      ← List.drop_eq_getElem_cons hlt']

theorem schedule_eq_refSchedule (hb : block ≠ []) : schedule block = refSchedule block 48 := by
  have h := scheduleFrom_drop_refSchedule hb 48 0
  rwa [List.drop_zero, List.drop_zero, Nat.zero_add, refSchedule_zero] at h

end Schedule

/-! ## The rounds by index -/

/-- Two lists of `n` elements paired up are the pairs at the indices below `n`. -/
theorem zip_eq_map_range {α β : Type} {xs : List α} {ys : List β} {n : Nat} (hx : xs.length = n) (hy : ys.length = n)
    (a : α) (b : β) : xs.zip ys = (List.range n).map fun t => (xs.getD t a, ys.getD t b) := by
  subst hx
  refine List.ext_getElem (by simp [hy]) fun t ht _ => ?_
  obtain ⟨h1, h2⟩ : t < xs.length ∧ t < ys.length := by simpa using ht
  simp [h1, h2]

/-- Sixteen words compress by R133's indices as they do by the machine's window and its walk over K and W together. -/
theorem compress_eq_refCompress (h : Vector Word 8) {block : List Word} (hb : block.length = 16) :
    compress h block = refCompress h block := by
  have hne : block ≠ [] := List.length_pos_iff.mp (by omega)
  have hlength : (refSchedule block 48).length = 64 := by rw [refSchedule_length, hb]
  rw [compress, refCompress, refRounds, schedule_eq_refSchedule hne,
    zip_eq_map_range (n := 64) rfl hlength 0 0, List.foldl_map]

/-- Settles O40: the rows 30h and 31h use no field, and both commands complete at once, SHACOMP with the compression
that `compress_eq_refCompress` ties to R133's indices. -/
theorem shaCommands : Obligations.ShaCommands := by
  refine ⟨encodesNone_of_unused (by decide) fun _ _ _ _ => rfl, encodesNone_of_unused (by decide) fun _ _ _ _ => rfl,
    fun s => ⟨⟨complete { s with sh := initialHash } false, rfl, rfl⟩, ?_⟩⟩
  rw [← compress_eq_refCompress s.sh s.sw.length_toList]
  exact ⟨complete { s with sh := compress s.sh s.sw.toList } false, rfl, rfl⟩

end Sys2Proof.Machine

/-! # The field unit (41_field.md R163 to R182) -/

namespace Sys2Proof.Machine

/-! ## Rows of R101 with register fields -/

theorem unused_one (rc : Fin 16) (r : Except DecodeError Instr) :
    unused [rc] r = if rc = 0 then r else .error .sbzNonZero := by
  simp [unused]

theorem unused_two (f g : Fin 16) (r : Except DecodeError Instr) :
    unused [f, g] r = if f = 0 ∧ g = 0 then r else .error .sbzNonZero := by
  simp [unused]

/-- A row of the decoder that leaves only RC unused encodes a command of three registers (R101, R103). -/
theorem encodesThree_of_unused {op : Nat} {mk : Fin 16 → Fin 16 → Fin 16 → Instr} (hop : op < 256)
    (hrow : ∀ rd ra rb rc, decodeFields op rd ra rb rc = unused [rc] (.ok (mk rd ra rb))) : EncodesThree op mk := by
  intro rd ra rb rc
  rw [decodeCommand_commandWord op hop, hrow, unused_one]

/-- A row of the decoder that leaves RB and RC unused encodes a command of RD and RA. -/
theorem encodesTwo_of_unused {op : Nat} {mk : Fin 16 → Fin 16 → Instr} (hop : op < 256)
    (hrow : ∀ rd ra rb rc, decodeFields op rd ra rb rc = unused [rb, rc] (.ok (mk rd ra))) : EncodesTwo op mk := by
  intro rd ra rb rc
  rw [decodeCommand_commandWord op hop, hrow, unused_two]

/-- A row of the decoder that leaves RD and RC unused encodes a command of two sources. -/
theorem encodesSources_of_unused {op : Nat} {mk : Fin 16 → Fin 16 → Instr} (hop : op < 256)
    (hrow : ∀ rd ra rb rc, decodeFields op rd ra rb rc = unused [rd, rc] (.ok (mk ra rb))) : EncodesSources op mk := by
  intro rd ra rb rc
  rw [decodeCommand_commandWord op hop, hrow, unused_two]

/-! ## One destination register -/

theorem readB_lt (s : State) (i : Fin 16) : readB s i < 2 ^ 256 := s.b[i].isLt

/-- A value of at most 256 bits reads back from the register it was written to. -/
theorem readB_writeB_same (s : State) (i : Fin 16) {v : Nat} (hv : v < 2 ^ 256) : readB (writeB s i v) i = v := by
  simpa [readB] using hv

/-- The completion with B[rd] written has that one destination. -/
theorem wroteB_complete (s : State) (rd : Fin 16) {v : Nat} (r : Bool) (hv : v < 2 ^ 256) :
    WroteB s (complete (writeB s rd v) r) rd v r := by
  refine ⟨rfl, readB_writeB_same s rd hv, fun j hj => ?_⟩
  simp only [complete_b, writeB_b, Fin.getElem_fin]
  exact Vector.getElem_set_ne _ _ fun e => hj (Fin.ext e.symm)

/-- A command whose work is one register write completes with that write. -/
theorem finish_writeB (s : State) (rd : Fin 16) {v : Nat} (r : Bool) (hv : v < 2 ^ 256) :
    ∃ t, finish (writeB s rd v) r = .next t ∧ WroteB s t rd v r :=
  ⟨_, rfl, wroteB_complete s rd r hv⟩

theorem raise_faulted (s : State) (c : FaultCode) : ∃ t, raise s c = .next t ∧ Faulted s t c := ⟨_, rfl, rfl⟩

/-! ## Operands that fail their check -/

/-- An operand not below its modulus raises ERANGE (R163). -/
theorem rangeChecked_of_ge {m : Nat} {s : State} {i : Fin 16} (k : Nat → Result) (h : m ≤ readB s i) :
    rangeChecked m s i k = raise s .range := if_pos h

theorem rangeChecked2_of_ge {m : Nat} {s : State} {ra rb : Fin 16} (k : Nat → Nat → Result)
    (h : m ≤ readB s ra ∨ m ≤ readB s rb) : rangeChecked2 m s ra rb k = raise s .range := by
  rcases Nat.lt_or_ge (readB s ra) m with ha | ha
  · rw [rangeChecked2, rangeChecked_of_lt _ ha, rangeChecked_of_ge _ (h.resolve_left (Nat.not_le_of_lt ha))]
  · exact rangeChecked_of_ge _ ha

/-! ## Commands mod m

What the commands mod p and mod n share, once for every modulus a register can hold. -/

/-- A number the field unit can compute with: not 0 or 1, and within a register. -/
structure Modulus (m : Nat) : Prop where
  one_lt : 1 < m
  lt_register : m < 2 ^ 256

theorem modulus_primeP : Modulus primeP := ⟨by decide, by decide⟩

theorem modulus_orderN : Modulus orderN := ⟨by decide, by decide⟩

section Modular
variable {m : Nat} (hm : Modulus m)
include hm

theorem Modulus.pos : 0 < m := Nat.lt_of_succ_lt hm.one_lt

theorem Modulus.mod_lt (a : Nat) : a % m < m := Nat.mod_lt a hm.pos

/-- A residue fits a register. -/
theorem Modulus.fits {v : Nat} (hv : v < m) : v < 2 ^ 256 := hv.trans hm.lt_register

theorem Modulus.powMod_lt (a e : Nat) : powMod m a e < m := powLoop_lt m a e 256 1 hm.one_lt

/-- The machine's inverse is the Fermat power (R170, R178). -/
theorem Modulus.invMod_eq (a : Nat) : invMod m a = a ^ (m - 2) % m :=
  powMod_eq m a (m - 2) hm.one_lt ((Nat.sub_le m 2).trans_lt hm.lt_register)

variable (s : State) (rd ra rb : Fin 16)

/-- A binary operation on operands below m writes its reduced result; the operands are read before the write, so RD
may be one of them. -/
theorem fieldOp2_of_lt {f : Nat → Nat → Nat} (hf : ∀ a b, f a b < m) (ha : readB s ra < m) (hb : readB s rb < m) :
    ∃ t, fieldOp2 m f rd ra rb s = .next t ∧ WroteB s t rd (f (readB s ra) (readB s rb)) false := by
  rw [fieldOp2, rangeChecked2_of_lt _ ha hb]
  exact finish_writeB s rd false (hm.fits (hf _ _))

omit hm in
theorem fieldOp2_of_ge (f : Nat → Nat → Nat) (h : m ≤ readB s ra ∨ m ≤ readB s rb) :
    ∃ t, fieldOp2 m f rd ra rb s = .next t ∧ Faulted s t .range := by
  rw [fieldOp2, rangeChecked2_of_ge _ h]
  exact raise_faulted s .range

theorem fieldOp2_sub (ha : readB s ra < m) (hb : readB s rb < m) :
    ∃ t v, fieldOp2 m (subMod m) rd ra rb s = .next t ∧ WroteB s t rd v false ∧
      (v : Int) = ((readB s ra : Int) - readB s rb) % m := by
  obtain ⟨t, ht, hw⟩ := fieldOp2_of_lt hm s rd ra rb (fun _ _ => hm.mod_lt _) ha hb
  exact ⟨t, _, ht, hw, subMod_eq_emod m _ _ hm.pos⟩

/-- The exact sum, difference and product mod m (R167 to R169, R175 to R177). -/
theorem ring_results (ha : readB s ra < m) (hb : readB s rb < m) :
    (∃ t, fieldOp2 m (addMod m) rd ra rb s = .next t ∧ WroteB s t rd ((readB s ra + readB s rb) % m) false) ∧
    (∃ t v, fieldOp2 m (subMod m) rd ra rb s = .next t ∧ WroteB s t rd v false ∧
      (v : Int) = ((readB s ra : Int) - readB s rb) % m) ∧
    (∃ t, fieldOp2 m (mulMod m) rd ra rb s = .next t ∧ WroteB s t rd (readB s ra * readB s rb % m) false) :=
  ⟨fieldOp2_of_lt hm s rd ra rb (fun _ _ => hm.mod_lt _) ha hb, fieldOp2_sub hm s rd ra rb ha hb,
    fieldOp2_of_lt hm s rd ra rb (fun _ _ => hm.mod_lt _) ha hb⟩

theorem fieldPow_result :
    ∃ t, fieldPow m rd ra rb s = .next t ∧
      if readB s ra < m then WroteB s t rd (readB s ra ^ readB s rb % m) false else Faulted s t .range := by
  by_cases ha : readB s ra < m
  · simp only [if_pos ha]
    rw [fieldPow, rangeChecked_of_lt _ ha, powMod_eq m _ _ hm.one_lt (readB_lt s rb)]
    exact finish_writeB s rd false (hm.fits (hm.mod_lt _))
  · simp only [if_neg ha]
    rw [fieldPow, rangeChecked_of_ge _ (Nat.le_of_not_lt ha)]
    exact raise_faulted s .range

/-- The range check comes before the check for 0 (60_exceptions.md R332). -/
theorem fieldInv_result :
    ∃ t, fieldInv m rd ra s = .next t ∧
      if m ≤ readB s ra then Faulted s t .range
      else if readB s ra = 0 then Faulted s t .invz
      else WroteB s t rd (readB s ra ^ (m - 2) % m) false := by
  by_cases ha : m ≤ readB s ra
  · simp only [if_pos ha]
    rw [fieldInv, invertible, rangeChecked_of_ge _ ha]
    exact raise_faulted s .range
  have hlt := Nat.lt_of_not_le ha
  by_cases h0 : readB s ra = 0
  · simp only [if_neg ha, if_pos h0]
    rw [fieldInv, invertible, rangeChecked_of_lt _ hlt, if_pos h0]
    exact raise_faulted s .invz
  · simp only [if_neg ha, if_neg h0]
    rw [fieldInv, invertible, rangeChecked_of_lt _ hlt, if_neg h0, hm.invMod_eq]
    exact finish_writeB s rd false (hm.fits (hm.mod_lt _))

omit hm in
theorem fieldEq_result :
    ∃ t, fieldEq m ra rb s = .next t ∧
      if readB s ra < m ∧ readB s rb < m then Finished s t (decide (readB s ra = readB s rb))
      else Faulted s t .range := by
  by_cases h : readB s ra < m ∧ readB s rb < m
  · simp only [if_pos h]
    rw [fieldEq, rangeChecked2_of_lt _ h.1 h.2]
    exact ⟨_, rfl, rfl⟩
  · simp only [if_neg h]
    rw [fieldEq, rangeChecked2_of_ge _ (by omega)]
    exact raise_faulted s .range

theorem fieldRed_result : ∃ t, fieldRed m rd ra s = .next t ∧ WroteB s t rd (readB s ra % m) false :=
  finish_writeB s rd false (hm.fits (hm.mod_lt _))

/-! ### Closure (R182): a next state without a fault has its destination reduced -/

variable {s rd ra rb} {t : State}

theorem reduced_of_finish {v : Nat} {r : Bool} (hv : v < m) (h : finish (writeB s rd v) r = .next t) :
    readB t rd < m := by
  obtain rfl := (finish_next _ _ _).mp h
  exact (readB_writeB_same s rd (hm.fits hv)).trans_lt hv

omit hm in
/-- A state reached by a fault has ERR set (60_exceptions.md R334). -/
theorem not_raiseFault_of_err_eq_false {c : FaultCode} (herr : t.status.err = false) : t ≠ raiseFault s c := by
  rintro rfl
  exact Bool.noConfusion herr

theorem fieldOp2_reduced {f : Nat → Nat → Nat} (hf : ∀ a b, f a b < m) (herr : t.status.err = false)
    (h : fieldOp2 m f rd ra rb s = .next t) : readB t rd < m := by
  rcases rangeChecked2_cases h with ⟨-, h⟩ | ⟨-, -, h⟩
  · exact absurd h (not_raiseFault_of_err_eq_false herr)
  · exact reduced_of_finish hm (hf _ _) h

theorem fieldInv_reduced (herr : t.status.err = false) (h : fieldInv m rd ra s = .next t) : readB t rd < m := by
  rcases invertible_cases h with ⟨-, h⟩ | ⟨-, -, h⟩ | ⟨-, -, h⟩
  · exact absurd h (not_raiseFault_of_err_eq_false herr)
  · exact absurd h (not_raiseFault_of_err_eq_false herr)
  · exact reduced_of_finish hm (hm.powMod_lt _ _) h

theorem fieldPow_reduced (herr : t.status.err = false) (h : fieldPow m rd ra rb s = .next t) : readB t rd < m := by
  rcases rangeChecked_cases h with ⟨-, h⟩ | ⟨-, h⟩
  · exact absurd h (not_raiseFault_of_err_eq_false herr)
  · exact reduced_of_finish hm (hm.powMod_lt _ _) h

theorem fieldRed_reduced (h : fieldRed m rd ra s = .next t) : readB t rd < m :=
  reduced_of_finish hm (hm.mod_lt _) h

end Modular

/-! ## The square root (R172) -/

theorem sqrtCandidate_eq (a : Nat) : sqrtCandidate a = a ^ ((primeP + 1) / 4) % primeP :=
  powMod_eq primeP a sqrtExponent modulus_primeP.one_lt (by decide)

theorem resIsRoot_eq (r a : Nat) : resIsRoot r a = decide (r * r % primeP = a) := rfl

theorem execFsqrt_result (s : State) (rd ra : Fin 16) :
    ∃ t, execFsqrt rd ra s = .next t ∧
      if readB s ra < primeP then
        ∃ r, r = readB s ra ^ ((primeP + 1) / 4) % primeP ∧ WroteB s t rd r (decide (r * r % primeP = readB s ra))
      else Faulted s t .range := by
  by_cases ha : readB s ra < primeP
  · simp only [if_pos ha]
    rw [execFsqrt, rangeChecked_of_lt _ ha]
    obtain ⟨t, ht, hwrote⟩ := finish_writeB s rd (resIsRoot (sqrtCandidate (readB s ra)) (readB s ra))
      (modulus_primeP.fits (modulus_primeP.powMod_lt (readB s ra) sqrtExponent))
    exact ⟨t, ht, _, sqrtCandidate_eq _, resIsRoot_eq _ _ ▸ hwrote⟩
  · simp only [if_neg ha]
    rw [execFsqrt, rangeChecked_of_ge _ (Nat.le_of_not_lt ha)]
    exact raise_faulted s .range

theorem execFsqrt_reduced {s t : State} {rd ra : Fin 16} (herr : t.status.err = false)
    (h : execFsqrt rd ra s = .next t) : readB t rd < primeP := by
  rcases rangeChecked_cases h with ⟨-, h⟩ | ⟨-, h⟩
  · exact absurd h (not_raiseFault_of_err_eq_false herr)
  · exact reduced_of_finish modulus_primeP (modulus_primeP.powMod_lt _ _) h

/-! ## The constants of LDK (R166) -/

/-- KTAB with the constants of 00_scope.md R9 as they are written there. -/
theorem constantTable_of_le {k : Nat} (hk : k ≤ 6) :
    constantTable k = some
      ([0, 1, 0xFFFFFFFFFFFFFFFFFFFFFFFFFFFFFFFFFFFFFFFFFFFFFFFFFFFFFFFEFFFFFC2F,
        0xFFFFFFFFFFFFFFFFFFFFFFFFFFFFFFFEBAAEDCE6AF48A03BBFD25E8CD0364141,
        0x79BE667EF9DCBBAC55A06295CE870B07029BFCDB2DCE28D959F2815B16F81798,
        0x483ADA7726A3C4655DA4FBFC0E1108A8FD17B448A68554199C47D08FFB10D4B8,
        0x7FFFFFFFFFFFFFFFFFFFFFFFFFFFFFFF5D576E7357A4501DDFE92F46681B20A0].getD k 0) := by
  interval_cases k <;> rfl

theorem constantTable_of_gt {k : Nat} (hk : 6 < k) : constantTable k = none := by
  obtain ⟨j, rfl⟩ : ∃ j, k = j + 7 := ⟨k - 7, by omega⟩
  rfl

theorem constantTable_lt {k v : Nat} (h : constantTable k = some v) : v < 2 ^ 256 := by
  unfold constantTable at h
  split at h <;> cases h <;> decide

theorem execLdk_of_some {s : State} {rd k : Fin 16} {v : Nat} (h : constantTable k.val = some v) :
    ∃ t, execLdk rd k s = .next t ∧ WroteB s t rd v false := by
  unfold execLdk
  rw [h]
  exact finish_writeB s rd false (constantTable_lt h)

theorem execLdk_of_none {s : State} {rd k : Fin 16} (h : constantTable k.val = none) :
    ∃ t, execLdk rd k s = .next t ∧ Faulted s t .illegal := by
  unfold execLdk
  rw [h]
  exact raise_faulted s .illegal

/-! ## The statements -/

/-- Settles O29: the ring operations mod m at m = p. -/
theorem fieldRingCommands : Obligations.FieldRingCommands := by
  refine ⟨encodesThree_of_unused (by decide) fun _ _ _ _ => rfl, encodesThree_of_unused (by decide) fun _ _ _ _ => rfl,
    encodesThree_of_unused (by decide) fun _ _ _ _ => rfl,
    fun s rd ra rb => ⟨ring_results modulus_primeP s rd ra rb, fun h => ?_⟩⟩
  have hfault (f : Nat → Nat → Nat) := fieldOp2_of_ge s rd ra rb f h
  simp only [List.forall_mem_cons]
  exact ⟨hfault _, hfault _, hfault _, List.forall_mem_nil _⟩

/-- Settles O30: the ring operations mod m at m = n. -/
theorem scalarRingCommands : Obligations.ScalarRingCommands := by
  refine ⟨encodesThree_of_unused (by decide) fun _ _ _ _ => rfl, encodesThree_of_unused (by decide) fun _ _ _ _ => rfl,
    encodesThree_of_unused (by decide) fun _ _ _ _ => rfl,
    fun s rd ra rb => ⟨ring_results modulus_orderN s rd ra rb, fun h => ?_⟩⟩
  have hfault (f : Nat → Nat → Nat) := fieldOp2_of_ge s rd ra rb f h
  simp only [List.forall_mem_cons]
  exact ⟨hfault _, hfault _, hfault _, List.forall_mem_nil _⟩

/-- Settles O31: square-and-multiply is the power for every exponent a register holds (`powMod_eq`). -/
theorem powerCommands : Obligations.PowerCommands :=
  ⟨encodesThree_of_unused (by decide) fun _ _ _ _ => rfl, encodesThree_of_unused (by decide) fun _ _ _ _ => rfl,
    fun s rd ra rb => ⟨fieldPow_result modulus_primeP s rd ra rb, fieldPow_result modulus_orderN s rd ra rb⟩⟩

/-- Settles O32: the machine's inverse is the power with exponent m − 2, whose loop sees all its bits. -/
theorem inverseCommands : Obligations.InverseCommands :=
  ⟨encodesTwo_of_unused (by decide) fun _ _ _ _ => rfl, encodesTwo_of_unused (by decide) fun _ _ _ _ => rfl,
    fun s rd ra => ⟨fieldInv_result modulus_primeP s rd ra, fieldInv_result modulus_orderN s rd ra⟩⟩

/-- Settles O33: the candidate the machine writes is the power of R172, and RES is the test of its square. -/
theorem squareRoot : Obligations.SquareRoot :=
  ⟨encodesTwo_of_unused (by decide) fun _ _ _ _ => rfl, execFsqrt_result⟩

/-- Settles O34: the comparison of checked operands and the unchecked reduction, mod p and mod n. -/
theorem compareAndReduce : Obligations.CompareAndReduce :=
  ⟨encodesSources_of_unused (by decide) fun _ _ _ _ => rfl, encodesSources_of_unused (by decide) fun _ _ _ _ => rfl,
    encodesTwo_of_unused (by decide) fun _ _ _ _ => rfl, encodesTwo_of_unused (by decide) fun _ _ _ _ => rfl,
    fun s rd ra rb => ⟨fieldEq_result s ra rb, fieldEq_result s ra rb, fieldRed_result modulus_primeP s rd ra,
      fieldRed_result modulus_orderN s rd ra⟩⟩

/-- Settles O35: a fault would have set ERR, and each command writes a residue. -/
theorem resultsAreReduced : Obligations.ResultsAreReduced := by
  intro s t rd ra rb _ herr
  simp only [List.forall_mem_cons]
  exact ⟨⟨fieldOp2_reduced modulus_primeP (fun _ _ => modulus_primeP.mod_lt _) herr,
      fieldOp2_reduced modulus_primeP (fun _ _ => modulus_primeP.mod_lt _) herr,
      fieldOp2_reduced modulus_primeP (fun _ _ => modulus_primeP.mod_lt _) herr,
      fieldInv_reduced modulus_primeP herr, fieldPow_reduced modulus_primeP herr, execFsqrt_reduced herr,
      fieldRed_reduced modulus_primeP, List.forall_mem_nil _⟩,
    ⟨fieldOp2_reduced modulus_orderN (fun _ _ => modulus_orderN.mod_lt _) herr,
      fieldOp2_reduced modulus_orderN (fun _ _ => modulus_orderN.mod_lt _) herr,
      fieldOp2_reduced modulus_orderN (fun _ _ => modulus_orderN.mod_lt _) herr,
      fieldInv_reduced modulus_orderN herr, fieldPow_reduced modulus_orderN herr,
      fieldRed_reduced modulus_orderN, List.forall_mem_nil _⟩⟩

/-- Settles O28: NOP and MOV complete for every operand, and LDK as KTAB says of its selector. -/
theorem controlAndMoves : Obligations.ControlAndMoves := by
  refine ⟨encodesNone_of_unused (by decide) fun _ _ _ _ => rfl, encodesTwo_of_unused (by decide) fun _ _ _ _ => rfl,
    fun rd k rb rc => ?_, fun s => ⟨complete s false, rfl, rfl⟩,
    fun s rd ra => finish_writeB s rd false (readB_lt s ra), fun s rd k => ?_⟩
  · rw [decodeCommand_commandWord 0x02 (by decide)]
    exact unused_two rb rc (decodeLdk rd k)
  · by_cases hk : k.val ≤ 6
    · simp only [if_pos hk]
      exact execLdk_of_some (constantTable_of_le hk)
    · simp only [if_neg hk]
      exact execLdk_of_none (constantTable_of_gt (Nat.lt_of_not_le hk))

end Sys2Proof.Machine

/-! # The curve unit (42_curve.md R201 to R209) -/

namespace Sys2Proof.Machine

/-! ## Valid points (R201) -/

/-- The model's test of a pair is R201's: coordinates below p, and the curve's equation. -/
theorem pointValid_affine_iff (x y : Nat) :
    pointValid (.affine x y) = true ↔
      x < primeP ∧ y < primeP ∧ y ^ 2 % primeP = (x ^ 3 + 7) % primeP := by
  simp only [pointValid, curveEquation, curveB, Bool.and_eq_true, decide_eq_true_eq, beq_iff_eq, and_assoc,
    Nat.pow_succ, Nat.pow_zero, Nat.one_mul]

theorem readPoint_of_pinf {s : State} {i : Fin 8} (h : pinfBit s i = true) : readPoint s i = .infinity := if_pos h

theorem readPoint_of_not_pinf {s : State} {i : Fin 8} (h : ¬ pinfBit s i = true) :
    readPoint s i = .affine s.px[i].toNat s.py[i].toNat := if_neg h

theorem pointValid_readPoint_iff (s : State) (i : Fin 8) :
    pointValid (readPoint s i) = true ↔ pinfBit s i = true ∨
      (s.px[i].toNat < primeP ∧ s.py[i].toNat < primeP ∧
        s.py[i].toNat ^ 2 % primeP = (s.px[i].toNat ^ 3 + 7) % primeP) := by
  by_cases h : pinfBit s i = true
  · rw [readPoint_of_pinf h]
    exact iff_of_true rfl (.inl h)
  · rw [readPoint_of_not_pinf h, pointValid_affine_iff, or_iff_right h]

/-- A command on one point operand: ENOTCURVE for an invalid one, and what the rest of the command does for a valid
one. -/
theorem validPoint_result {s : State} {i : Fin 8} {k : Point → Result} {wrote : State → Prop}
    (hk : ∃ t, k (readPoint s i) = .next t ∧ wrote t) :
    ∃ t, validPoint s i k = .next t ∧
      if pointValid (readPoint s i) = true then wrote t else Faulted s t .notCurve := by
  by_cases h : pointValid (readPoint s i) = true
  · simp only [if_pos h, validPoint_of_valid k h]
    exact hk
  · simp only [if_neg h, validPoint]
    exact raise_faulted s .notCurve

/-! ## Points that fit a register

A point reads back from the register it was written to when its coordinates have at most 256 bits. Every register holds
such a point, and the group law keeps within them. -/

/-- The coordinates have at most 256 bits; O has none. -/
def PointFits (q : Point) : Prop := ∀ x y, q = .affine x y → x < 2 ^ 256 ∧ y < 2 ^ 256

theorem pointFits_infinity : PointFits .infinity := fun _ _ h => nomatch h

theorem pointFits_affine {x y : Nat} (hx : x < 2 ^ 256) (hy : y < 2 ^ 256) : PointFits (.affine x y) := by
  rintro _ _ ⟨⟩
  exact ⟨hx, hy⟩

theorem pointFits_pointG : PointFits pointG := pointFits_affine (by decide) (by decide)

theorem pointFits_readPoint (s : State) (i : Fin 8) : PointFits (readPoint s i) := by
  by_cases h : pinfBit s i = true
  · rw [readPoint_of_pinf h]
    exact pointFits_infinity
  · rw [readPoint_of_not_pinf h]
    exact pointFits_affine s.px[i].isLt s.py[i].isLt

/-- The line's third point is reduced, whatever the slope and the points. -/
theorem pointFits_chordPoint (sl x1 y1 x2 : Nat) : PointFits (chordPoint sl x1 y1 x2) :=
  pointFits_affine (modulus_primeP.fits (modulus_primeP.mod_lt _)) (modulus_primeP.fits (modulus_primeP.mod_lt _))

/-! ## The group law (R203) -/

@[simp] theorem pointAdd_infinity_left (q : Point) : pointAdd .infinity q = q := rfl

@[simp] theorem pointAdd_infinity_right (q : Point) : pointAdd q .infinity = q := by
  cases q <;> rfl

section GroupLaw
variable {x1 y1 x2 y2 : Nat}

theorem pointAdd_of_opposite (h : x1 = x2 ∧ (y1 + y2) % primeP = 0) :
    pointAdd (.affine x1 y1) (.affine x2 y2) = .infinity := if_pos h

theorem pointAdd_of_equal (hopp : ¬ (x1 = x2 ∧ (y1 + y2) % primeP = 0)) (heq : x1 = x2 ∧ y1 = y2) :
    pointAdd (.affine x1 y1) (.affine x2 y2) = chordPoint (tangentSlope x1 y1) x1 y1 x2 :=
  (if_neg hopp).trans (if_pos heq)

theorem pointAdd_of_chord (hopp : ¬ (x1 = x2 ∧ (y1 + y2) % primeP = 0)) (hne : ¬ (x1 = x2 ∧ y1 = y2)) :
    pointAdd (.affine x1 y1) (.affine x2 y2) = chordPoint (chordSlope x1 y1 x2 y2) x1 y1 x2 :=
  (if_neg hopp).trans (if_neg hne)

end GroupLaw

theorem pointFits_pointAdd {q1 q2 : Point} (h1 : PointFits q1) (h2 : PointFits q2) : PointFits (pointAdd q1 q2) := by
  cases q1 with
  | infinity => exact h2
  | affine x1 y1 =>
    cases q2 with
    | infinity => exact h1
    | affine x2 y2 =>
      by_cases hopp : x1 = x2 ∧ (y1 + y2) % primeP = 0
      · rw [pointAdd_of_opposite hopp]
        exact pointFits_infinity
      by_cases heq : x1 = x2 ∧ y1 = y2
      · rw [pointAdd_of_equal hopp heq]
        exact pointFits_chordPoint _ _ _ _
      · rw [pointAdd_of_chord hopp heq]
        exact pointFits_chordPoint _ _ _ _

/-! ### The slopes and the third point in exact integers

First for every modulus, so that no power with exponent p − 2 meets the number p itself. -/

section Slopes
variable {m : Nat} (hm : Modulus m)
include hm

/-- A quotient is the product with the Fermat power. -/
theorem Modulus.mulMod_invMod (a b : Nat) : mulMod m a (invMod m b) = a * b ^ (m - 2) % m := by
  rw [mulMod, hm.invMod_eq]
  exact (Nat.mod_modEq _ m).mul_left a

theorem Modulus.subMod_modEq (a b : Nat) : ((subMod m a b : Nat) : Int) ≡ (a : Int) - b [ZMOD m] := by
  rw [subMod_eq_emod m a b hm.pos]
  exact Int.mod_modEq _ _

/-- The quotient of two reduced differences, in the integers. -/
theorem Modulus.mulMod_subMod_invMod (a b c d : Nat) :
    ((mulMod m (subMod m a b) (invMod m (subMod m c d)) : Nat) : Int) =
      ((a : Int) - b) * ((c : Int) - d) ^ (m - 2) % m := by
  rw [hm.mulMod_invMod, Int.natCast_emod, Int.natCast_mul, Int.natCast_pow]
  exact (hm.subMod_modEq a b).mul ((hm.subMod_modEq c d).pow _)

/-- The quotient by a reduced product. -/
theorem Modulus.mulMod_invMod_mulMod (a b c : Nat) :
    mulMod m a (invMod m (mulMod m b c)) = a * (b * c) ^ (m - 2) % m := by
  rw [hm.mulMod_invMod]
  exact ((Nat.mod_modEq (b * c) m).pow _).mul_left a

/-- Subtracting twice, reducing each time, is the residue of the integer difference. -/
theorem Modulus.subMod_subMod (a b c : Nat) :
    ((subMod m (subMod m a b) c : Nat) : Int) = ((a : Int) - b - c) % m := by
  rw [subMod_eq_emod m _ c hm.pos, subMod_eq_emod m a b hm.pos, Int.emod_sub_emod]

/-- A multiple of a reduced difference, less another number, is the residue of the integer. -/
theorem Modulus.subMod_mul_subMod (a b c d : Nat) :
    ((subMod m (a * subMod m b c) d : Nat) : Int) = ((a : Int) * (b - c) - d) % m := by
  rw [subMod_eq_emod m _ d hm.pos, Int.natCast_mul]
  exact ((hm.subMod_modEq b c).mul_left _).sub_right _

end Slopes

theorem tangentSlope_eq (x y : Nat) : tangentSlope x y = 3 * x ^ 2 * (2 * y) ^ (primeP - 2) % primeP := by
  rw [Nat.pow_two x]
  exact modulus_primeP.mulMod_invMod_mulMod (3 * (x * x)) 2 y

theorem chordSlope_eq (x1 y1 x2 y2 : Nat) :
    (chordSlope x1 y1 x2 y2 : Int) = ((y2 : Int) - y1) * ((x2 : Int) - x1) ^ (primeP - 2) % primeP :=
  modulus_primeP.mulMod_subMod_invMod y2 y1 x2 x1

/-- R203's x3 and y3. -/
theorem chordPoint_coordinates (sl x1 y1 x2 : Nat) :
    ∃ x3 y3, chordPoint sl x1 y1 x2 = .affine x3 y3 ∧
      (x3 : Int) = ((sl : Int) ^ 2 - x1 - x2) % primeP ∧
      (y3 : Int) = ((sl : Int) * (x1 - x3) - y1) % primeP := by
  refine ⟨_, _, rfl, ?_, modulus_primeP.subMod_mul_subMod _ _ _ _⟩
  rw [modulus_primeP.subMod_subMod, Int.natCast_mul, pow_two]

/-! ## Scalar multiplication (R206) -/

/-- One turn of R206's loop: double, then add Q where bit i of the scalar is 1. -/
def doubleAndAdd (k : Nat) (q r : Point) (i : Nat) : Point :=
  if k.testBit i then pointAdd (pointAdd r r) q else pointAdd r r

section Scalar
variable (k : Nat) (q : Point)

theorem refPointMul_eq_foldl : refPointMul k q = (List.range 256).reverse.foldl (doubleAndAdd k q) .infinity := rfl

theorem pointMulLoop_succ (n : Nat) (r : Point) :
    pointMulLoop k q (n + 1) r = pointMulLoop k q n (doubleAndAdd k q r n) := rfl

/-- The machine's loop from bit `n − 1` down takes its turns at the bits below `n`, the highest first. -/
theorem pointMulLoop_eq_foldl (n : Nat) (r : Point) :
    pointMulLoop k q n r = (List.range n).reverse.foldl (doubleAndAdd k q) r := by
  induction n generalizing r with
  | zero => rfl
  | succ n ih =>
    rw [pointMulLoop_succ, ih, List.range_succ, List.reverse_append, List.reverse_singleton, List.singleton_append,
      List.foldl_cons]

theorem pointMul_eq_refPointMul : pointMul k q = refPointMul k q := by
  rw [pointMul, pointMulLoop_eq_foldl, refPointMul_eq_foldl]

variable {k q}

theorem pointFits_doubleAndAdd {r : Point} (hq : PointFits q) (hr : PointFits r) (i : Nat) :
    PointFits (doubleAndAdd k q r i) := by
  have hdouble := pointFits_pointAdd hr hr
  unfold doubleAndAdd
  split
  · exact pointFits_pointAdd hdouble hq
  · exact hdouble

theorem pointFits_pointMulLoop (hq : PointFits q) (n : Nat) {r : Point} (hr : PointFits r) :
    PointFits (pointMulLoop k q n r) := by
  induction n generalizing r with
  | zero => exact hr
  | succ n ih => exact ih (pointFits_doubleAndAdd hq hr n)

theorem pointFits_pointMul (hq : PointFits q) : PointFits (pointMul k q) :=
  pointFits_pointMulLoop hq 256 pointFits_infinity

/-! ### The laws of 0, 1 and O: a turn leaves O where it stands unless the bit adds a point -/

theorem doubleAndAdd_infinity_of_bit_false {i : Nat} (h : k.testBit i = false) :
    doubleAndAdd k q .infinity i = .infinity := by
  simp [doubleAndAdd, h]

theorem doubleAndAdd_infinity_of_bit_true {i : Nat} (h : k.testBit i = true) : doubleAndAdd k q .infinity i = q := by
  simp [doubleAndAdd, h]

theorem pointMulLoop_zero_scalar (n : Nat) : pointMulLoop 0 q n .infinity = .infinity := by
  induction n with
  | zero => rfl
  | succ n ih => rw [pointMulLoop_succ, doubleAndAdd_infinity_of_bit_false (Nat.zero_testBit n), ih]

theorem pointMulLoop_one_scalar (n : Nat) : pointMulLoop 1 q (n + 1) .infinity = q := by
  induction n with
  | zero => exact doubleAndAdd_infinity_of_bit_true Nat.testBit_one_zero
  | succ n ih =>
    have hbit : Nat.testBit 1 (n + 1) = false := by simp [Nat.testBit_succ]
    rw [pointMulLoop_succ, doubleAndAdd_infinity_of_bit_false hbit, ih]

theorem pointMulLoop_infinity (n : Nat) : pointMulLoop k .infinity n .infinity = .infinity := by
  induction n with
  | zero => rfl
  | succ n ih =>
    have hturn : doubleAndAdd k .infinity .infinity n = .infinity := ite_self _
    rw [pointMulLoop_succ, hturn, ih]

end Scalar

/-! ## One destination point register (R202, R209) -/

section PointRegister
variable (s : State) (i : Fin 8) (x y : Wide) (f : Bool)

theorem setPointRegs_px_same : (setPointRegs s i x y f).px[i] = x := by simp

theorem setPointRegs_py_same : (setPointRegs s i x y f).py[i] = y := by simp

theorem pinfBit_setPointRegs_same : pinfBit (setPointRegs s i x y f) i = f := setPinfBit_same s.pinf i f

/-- A point within the register reads back from it. -/
theorem readPoint_writePoint_same {q : Point} (hq : PointFits q) : readPoint (writePoint s i q) i = q := by
  cases q with
  | infinity => exact readPoint_of_pinf (pinfBit_setPointRegs_same s i 0 0 true)
  | affine x y =>
    obtain ⟨hx, hy⟩ := hq x y rfl
    have hpinf : ¬ pinfBit (writePoint s i (.affine x y)) i = true := by
      rw [writePoint, pinfBit_setPointRegs_same]
      decide
    rw [readPoint_of_not_pinf hpinf, writePoint, setPointRegs_px_same, setPointRegs_py_same, BitVec.toNat_ofNat,
      BitVec.toNat_ofNat, Nat.mod_eq_of_lt hx, Nat.mod_eq_of_lt hy]

/-- O is written with zero coordinates. -/
theorem writePoint_infinity_coordinates :
    (writePoint s i .infinity).px[i] = 0 ∧ (writePoint s i .infinity).py[i] = 0 :=
  ⟨setPointRegs_px_same s i 0 0 true, setPointRegs_py_same s i 0 0 true⟩

/-- The other point registers and the other bits of PINF stand: the one destination of PMOV is its P[pd]. -/
theorem setPointRegs_others {j : Fin 8} (hj : j ≠ i) :
    (setPointRegs s i x y f).px[j] = s.px[j] ∧ (setPointRegs s i x y f).py[j] = s.py[j] ∧
      pinfBit (setPointRegs s i x y f) j = pinfBit s j := by
  have hdest : i ∈ destP (.pmov i i) := List.mem_singleton_self i
  obtain ⟨-, -, hothers, -⟩ := wrote_of_setPointRegs (x := x) (y := y) (f := f) (r := false) (s := s) hdest rfl
  exact hothers j (mt List.mem_singleton.mp hj)

theorem writePoint_others (q : Point) {j : Fin 8} (hj : j ≠ i) :
    (writePoint s i q).px[j] = s.px[j] ∧ (writePoint s i q).py[j] = s.py[j] ∧
      pinfBit (writePoint s i q) j = pinfBit s j := by
  cases q with
  | infinity => exact setPointRegs_others s i _ _ _ hj
  | affine x y => exact setPointRegs_others s i _ _ _ hj

/-- A point write changes the point registers and PINF alone. -/
theorem writePoint_frame (q : Point) :
    writePoint s i q = { s with
      px := (writePoint s i q).px, py := (writePoint s i q).py, pinf := (writePoint s i q).pinf } := by
  cases q <;> rfl

/-- A command whose work is one point write completes with that write. -/
theorem finish_writePoint {q : Point} (r : Bool) (hq : PointFits q) :
    ∃ t, finish (writePoint s i q) r = .next t ∧ WroteP s t i q r := by
  refine ⟨_, rfl, congrArg (complete · r) (writePoint_frame s i q), readPoint_writePoint_same s i hq, ?_,
    fun j hj => writePoint_others s i q hj⟩
  rintro rfl
  exact writePoint_infinity_coordinates s i

end PointRegister

/-! ## The commands -/

section Commands
variable (s : State) (pd pa pb : Fin 8) (rb : Fin 16)

theorem execPadd_result :
    ∃ t, execPadd pd pa pb s = .next t ∧
      if pointValid (readPoint s pa) = true ∧ pointValid (readPoint s pb) = true then
        WroteP s t pd (pointAdd (readPoint s pa) (readPoint s pb)) false
      else Faulted s t .notCurve := by
  simp only [ite_and]
  exact validPoint_result (validPoint_result
    (finish_writePoint s pd false (pointFits_pointAdd (pointFits_readPoint s pa) (pointFits_readPoint s pb))))

theorem execPdbl_result :
    ∃ t, execPdbl pd pa s = .next t ∧
      if pointValid (readPoint s pa) = true then
        WroteP s t pd (pointAdd (readPoint s pa) (readPoint s pa)) false
      else Faulted s t .notCurve :=
  validPoint_result
    (finish_writePoint s pd false (pointFits_pointAdd (pointFits_readPoint s pa) (pointFits_readPoint s pa)))

theorem execPmul_result :
    ∃ t, execPmul pd pa rb s = .next t ∧
      if pointValid (readPoint s pa) = true then WroteP s t pd (refPointMul (readB s rb) (readPoint s pa)) false
      else Faulted s t .notCurve := by
  rw [← pointMul_eq_refPointMul]
  exact validPoint_result (finish_writePoint s pd false (pointFits_pointMul (pointFits_readPoint s pa)))

theorem execPmov_result :
    ∃ t, execPmov pd pa s = .next t ∧ Finished { s with px := t.px, py := t.py, pinf := t.pinf } t false ∧
      t.px[pd] = s.px[pa] ∧ t.py[pd] = s.py[pa] ∧ pinfBit t pd = pinfBit s pa ∧
      ∀ j, j ≠ pd → t.px[j] = s.px[j] ∧ t.py[j] = s.py[j] ∧ pinfBit t j = pinfBit s j :=
  ⟨_, rfl, rfl, setPointRegs_px_same s pd s.px[pa] s.py[pa] (pinfBit s pa),
    setPointRegs_py_same s pd s.px[pa] s.py[pa] (pinfBit s pa),
    pinfBit_setPointRegs_same s pd s.px[pa] s.py[pa] (pinfBit s pa),
    fun _ hj => setPointRegs_others s pd s.px[pa] s.py[pa] (pinfBit s pa) hj⟩

end Commands

/-! ## The statements -/

/-- Settles O36: each operand is validated in its turn, and the sum fits the register it is written to. -/
theorem pointAddition : Obligations.PointAddition :=
  fun s pd pa pb => ⟨execPadd_result s pd pa pb, execPdbl_result s pd pa⟩

/-- Settles O37: the cases of the group law, and the line's third point with the slope of each case. -/
theorem groupLawFormulas : Obligations.GroupLawFormulas := by
  refine ⟨fun q => ⟨pointAdd_infinity_left q, pointAdd_infinity_right q⟩,
    fun x1 y1 x2 y2 => ⟨pointAdd_of_opposite, fun hopp => ?_⟩⟩
  by_cases heq : x1 = x2 ∧ y1 = y2
  · obtain ⟨x3, y3, hpoint, hx3, hy3⟩ := chordPoint_coordinates (tangentSlope x1 y1) x1 y1 x2
    exact ⟨_, x3, y3, (pointAdd_of_equal hopp heq).trans hpoint, fun _ => tangentSlope_eq x1 y1,
      fun hne => absurd heq hne, hx3, hy3⟩
  · obtain ⟨x3, y3, hpoint, hx3, hy3⟩ := chordPoint_coordinates (chordSlope x1 y1 x2 y2) x1 y1 x2
    exact ⟨_, x3, y3, (pointAdd_of_chord hopp heq).trans hpoint, fun h => absurd h heq,
      fun _ => chordSlope_eq x1 y1 x2 y2, hx3, hy3⟩

/-- Settles O38: the machine's loop is the loop by bit number (`pointMul_eq_refPointMul`), and the three laws are those
of the loop that starts at O. -/
theorem pointMultiplication : Obligations.PointMultiplication := by
  refine ⟨execPmul_result, fun q k => ?_⟩
  simp only [← pointMul_eq_refPointMul]
  exact ⟨pointMulLoop_zero_scalar 256, pointMulLoop_one_scalar 255, pointMulLoop_infinity 256⟩

/-- Settles O39: PLDG is one point write, PCHK the test of R201, and PMOV copies the three pieces as they stand. -/
theorem pointMoves : Obligations.PointMoves :=
  fun s pd pa => ⟨finish_writePoint s pd false pointFits_pointG,
    ⟨_, pointValid (readPoint s pa), rfl, rfl, pointValid_readPoint_iff s pa⟩, execPmov_result s pd pa⟩

end Sys2Proof.Machine

/-! # The ECDSA unit: signing and verification (43_ecdsa.md R231 to R234, R242) -/

namespace Sys2Proof.Machine

/-! ## Signatures (R231, R232) -/

theorem signR_lt {k r : Nat} (h : signR k = some r) : r < orderN := by
  unfold signR at h
  split at h
  · cases h
  · cases h
    exact modulus_orderN.mod_lt _

/-- When a nonce gives a signature: it is in range, and neither r nor s is 0. -/
theorem signWith_eq_some {e z k r v : Nat} :
    signWith e z k = some (r, v) ↔
      (1 ≤ k ∧ k < orderN) ∧ signR k = some r ∧ r ≠ 0 ∧ signS e z k r ≠ 0 ∧ lowS (signS e z k r) = v := by
  unfold signWith
  split
  case isFalse hk => simp [hk]
  case isTrue hk =>
    cases hr : signR k with
    | none => simp
    | some r' =>
      simp only [hk, true_and, Option.some.injEq, Option.ite_none_left_eq_some, Prod.mk.injEq]
      constructor
      · rintro ⟨hr0, hs0, rfl, rfl⟩
        exact ⟨rfl, hr0, hs0, rfl⟩
      · rintro ⟨rfl, hr0, hs0, rfl⟩
        exact ⟨hr0, hs0, rfl, rfl⟩

/-- The replacement by n − s brings every nonzero scalar into the lower half (R232). -/
theorem lowS_range {s : Nat} (h0 : s ≠ 0) (hlt : s < orderN) : 1 ≤ lowS s ∧ lowS s ≤ orderN / 2 := by
  unfold lowS halfN
  split <;> omega

/-- The function's half of R242. -/
theorem signWith_range {e z k r v : Nat} (h : signWith e z k = some (r, v)) :
    1 ≤ r ∧ r < orderN ∧ 1 ≤ v ∧ v ≤ orderN / 2 := by
  obtain ⟨-, hr, hr0, hs0, rfl⟩ := signWith_eq_some.mp h
  exact ⟨Nat.pos_of_ne_zero hr0, signR_lt hr, lowS_range hs0 (modulus_orderN.mod_lt _)⟩

theorem signTurn_of_some {e z : Nat} {st : Nonce} {rs : Nat × Nat}
    (h : signWith e z (intBe (nonceValue st)) = some rs) : signTurn e z st = .ok rs := by
  rw [signTurn, h]

theorem signTurn_of_none {e z : Nat} {st : Nonce} (h : signWith e z (intBe (nonceValue st)) = none) :
    signTurn e z st = .error (nonceReject st) := by
  rw [signTurn, h]

/-! ### Only z mod n counts -/

section Congruence
variable {z z' : Nat} (h : z % orderN = z' % orderN)
include h

theorem nonceStart_congr (e : Nat) : nonceStart e z = nonceStart e z' := by
  simp only [nonceStart, h]

theorem nonceStream_congr (e j : Nat) : nonceStream e z j = nonceStream e z' j := by
  induction j with
  | zero => exact nonceStart_congr h e
  | succ j ih => rw [nonceStream, nonceStream, ih]

theorem signS_congr (e k r : Nat) : signS e z k r = signS e z' k r :=
  Nat.ModEq.mul_left (invMod orderN k) (Nat.ModEq.add_right (r * e) h)

end Congruence

/-! ## ESIGN -/

/-- Both destinations read back, because they are two registers and the values fit them. -/
theorem wroteTwoB_complete (s : State) {rd rc : Fin 16} {v w : Nat} (hne : rd ≠ rc) (hv : v < 2 ^ 256)
    (hw : w < 2 ^ 256) : WroteTwoB s (complete (writeB (writeB s rd v) rc w) false) rd rc v w := by
  have hother (u : State) {i j : Fin 16} (x : Nat) (hj : j ≠ i) : (writeB u i x).b[j] = u.b[j] :=
    Vector.getElem_set_ne i.isLt j.isLt fun e => hj (Fin.ext e.symm)
  refine ⟨rfl, ?_, readB_writeB_same (writeB s rd v) rc hw, fun j hjd hjc => ?_⟩
  · calc readB (writeB (writeB s rd v) rc w) rd
        = readB (writeB s rd v) rd := congrArg BitVec.toNat (hother _ w hne)
      _ = v := readB_writeB_same s rd hv
  · exact (hother _ w hjc).trans (hother s v hjd)

section Esign
variable {s : State} {rd rc ra rb : Fin 16}

theorem execEsign_of_bad_key (hne : rd ≠ rc) (hkey : readB s ra = 0 ∨ orderN ≤ readB s ra) :
    execEsign rd rc ra rb s = raise s .key := (if_neg hne).trans (if_pos hkey)

theorem execEsign_of_accepted {r v : Nat} (hne : rd ≠ rc) (hkey : ¬ (readB s ra = 0 ∨ orderN ≤ readB s ra))
    (hturn : signTurn (readB s ra) (readB s rb) (nonceState s (readB s ra) (readB s rb)) = .ok (r, v)) :
    execEsign rd rc ra rb s = finish (writeB (writeB s rd r) rc v) false := by
  rw [execEsign, if_neg hne, if_neg hkey, hturn]

theorem execEsign_of_rejected {st : Nonce} (hne : rd ≠ rc) (hkey : ¬ (readB s ra = 0 ∨ orderN ≤ readB s ra))
    (hturn : signTurn (readB s ra) (readB s rb) (nonceState s (readB s ra) (readB s rb)) = .error st) :
    execEsign rd rc ra rb s = .next { s with nonce := some st } := by
  rw [execEsign, if_neg hne, if_neg hkey, hturn]

end Esign

/-- Settles O41: the checks in their order, then one turn, whose signature fits the two registers. -/
theorem esignTurn : Obligations.EsignTurn := by
  intro s rd rc ra rb
  by_cases hdest : rd = rc
  · simp only [if_pos hdest]
    exact ⟨_, if_pos hdest, rfl⟩
  by_cases hkey : readB s ra = 0 ∨ orderN ≤ readB s ra
  · simp only [if_neg hdest, if_pos hkey]
    exact ⟨_, execEsign_of_bad_key hdest hkey, rfl⟩
  simp only [if_neg hdest, if_neg hkey]
  cases hsign : signWith (readB s ra) (readB s rb)
      (intBe (nonceValue (nonceState s (readB s ra) (readB s rb)))) with
  | none =>
    refine ⟨_, execEsign_of_rejected hdest hkey (signTurn_of_none hsign), _, rfl, ?_⟩
    rw [← nonceState, hsign]
  | some rs =>
    obtain ⟨-, hr, -, hv⟩ := signWith_range hsign
    have hv' : rs.2 < orderN := hv.trans_lt (by decide)
    refine ⟨_, execEsign_of_accepted hdest hkey (signTurn_of_some hsign), _, rfl, ?_⟩
    rw [← nonceState, hsign]
    exact wroteTwoB_complete s hdest (modulus_orderN.fits hr) (modulus_orderN.fits hv')

/-- Settles O44: the stream starts from z mod n, and s is a residue of a sum that z enters once. -/
theorem signDependsOnZModN : Obligations.SignDependsOnZModN := by
  refine fun e z z' h => ⟨fun j => ?_, fun k => ?_⟩
  · rw [candidate, candidate, nonceStream_congr h]
  · simp only [signWith, signS_congr h]

/-- Settles O43: of the answers of one turn (`esignTurn`), a fault has ERR set and a rejection is still BUSY. -/
theorem signaturesAreLowS : Obligations.SignaturesAreLowS := by
  refine ⟨fun e z k r v => signWith_range, fun s t rd rc ra rb hbusy _ hexec hdone herr => ?_⟩
  obtain ⟨t', hexec', hturn⟩ := esignTurn s rd rc ra rb
  obtain rfl : t = t' := Host.Outcome.next.inj (hexec.symm.trans hexec')
  split_ifs at hturn with hdest hkey
  · exact absurd hturn (not_raiseFault_of_err_eq_false herr)
  · exact absurd hturn (not_raiseFault_of_err_eq_false herr)
  obtain ⟨st, -, hturn⟩ := hturn
  split at hturn
  next rs hsign =>
    obtain ⟨-, hrd, hrc, -⟩ := hturn
    rw [hrd, hrc]
    exact signWith_range hsign
  next =>
    rw [hturn, hbusy] at hdone
    cases hdone

/-! ### The run to the first accepted candidate -/

theorem core_run_succ_of_step {M : Host.Core} {s t : M.State} (k : Nat) (h : M.step s = .next t) :
    M.run (k + 1) s = M.run k t := by
  simp only [Host.Core.run, h]

theorem run_succ_of_step {s t : State} (k : Nat) (h : step s = .next t) : run (k + 1) s = run k t :=
  core_run_succ_of_step (M := Sys2Proof.core) k h

/-- With no host event to come, ESIGN runs with an accepted key, its stream at candidate `i`. -/
structure EsignAt (s : State) (rd rc ra rb : Fin 16) (i : Nat) : Prop where
  busy : s.status.busy = true
  bus : s.bus = []
  vm : s.vm = none
  decodes : decodeCommand s.cmd = .ok (.esign rd rc ra rb)
  key_pos : 1 ≤ readB s ra
  key_lt : readB s ra < orderN
  stream : s.nonce.getD (nonceStart (readB s ra) (readB s rb)) = nonceStream (readB s ra) (readB s rb) i

section EsignRun
variable {s : State} {rd rc ra rb : Fin 16} {i : Nat}

theorem EsignAt.step_eq_exec (h : EsignAt s rd rc ra rb i) : step s = exec (.esign rd rc ra rb) s :=
  step_of_fetch_run h.busy (quiet_of_no_events h.bus) (fetch_command h.vm h.decodes)

/-- A word that decodes to ESIGN names two destinations (R104(f)). -/
theorem EsignAt.dest_ne (h : EsignAt s rd rc ra rb i) : rd ≠ rc :=
  of_decide_eq_true (legalWordIsOneCommand s.cmd _ h.decodes).1

/-- A step tries candidate `i` of the stream. -/
theorem EsignAt.step_turn (h : EsignAt s rd rc ra rb i) :
    ∃ t, step s = .next t ∧
      match signWith (readB s ra) (readB s rb) (candidate (readB s ra) (readB s rb) i) with
      | some rs => WroteTwoB s t rd rc rs.1 rs.2
      | none => t = { s with nonce := some (nonceStream (readB s ra) (readB s rb) (i + 1)) } := by
  obtain ⟨t, hexec, hturn⟩ := esignTurn s rd rc ra rb
  have hkey : ¬ (readB s ra = 0 ∨ orderN ≤ readB s ra) := by
    have := h.key_pos
    have := h.key_lt
    omega
  rw [if_neg h.dest_ne, if_neg hkey, h.stream] at hturn
  obtain ⟨_, rfl, hturn⟩ := hturn
  exact ⟨t, h.step_eq_exec.trans hexec, hturn⟩

theorem EsignAt.step_of_accepted (h : EsignAt s rd rc ra rb i) {r v : Nat}
    (hsign : signWith (readB s ra) (readB s rb) (candidate (readB s ra) (readB s rb) i) = some (r, v)) :
    ∃ t, step s = .next t ∧ WroteTwoB s t rd rc r v := by
  have hturn := h.step_turn
  rwa [hsign] at hturn

theorem EsignAt.step_of_rejected (h : EsignAt s rd rc ra rb i)
    (hsign : signWith (readB s ra) (readB s rb) (candidate (readB s ra) (readB s rb) i) = none) :
    step s = .next { s with nonce := some (nonceStream (readB s ra) (readB s rb) (i + 1)) } := by
  have hturn := h.step_turn
  rw [hsign] at hturn
  obtain ⟨_, hstep, rfl⟩ := hturn
  exact hstep

/-- Nothing but the stream moves on. -/
theorem EsignAt.next (h : EsignAt s rd rc ra rb i) :
    EsignAt { s with nonce := some (nonceStream (readB s ra) (readB s rb) (i + 1)) } rd rc ra rb (i + 1) :=
  { h with stream := rfl }

/-- From candidate `i` on, `j` rejected candidates cost a step each and the next one, accepted, completes the command. -/
theorem EsignAt.run_of_accepted {j r v : Nat} (h : EsignAt s rd rc ra rb i)
    (hrejected : ∀ k < j, signWith (readB s ra) (readB s rb) (candidate (readB s ra) (readB s rb) (i + k)) = none)
    (haccepted : signWith (readB s ra) (readB s rb) (candidate (readB s ra) (readB s rb) (i + j)) = some (r, v)) :
    ∃ t, run (j + 1) s = .next t ∧ WroteTwoB s t rd rc r v := by
  induction j generalizing s i with
  | zero =>
    obtain ⟨t, hstep, hwrote⟩ := h.step_of_accepted haccepted
    exact ⟨t, run_succ_of_step 0 hstep, hwrote⟩
  | succ j ih =>
    rw [run_succ_of_step _ (h.step_of_rejected (hrejected 0 j.succ_pos))]
    refine ih h.next (fun k hk => ?_) ?_
    · have hk' := hrejected (k + 1) (Nat.succ_lt_succ hk)
      rwa [← Nat.add_assoc, Nat.add_right_comm] at hk'
    · rwa [← Nat.add_assoc, Nat.add_right_comm] at haccepted

end EsignRun

/-- Settles O42: at acceptance the stream is at candidate 0, and each rejected candidate moves it on by one. -/
theorem esignRun : Obligations.EsignRun := by
  intro s rd rc ra rb j r v hbusy hbus hvm hnonce hdecode hpos hlt hrejected haccepted
  have hstart : EsignAt s rd rc ra rb 0 := ⟨hbusy, hbus, hvm, hdecode, hpos, hlt, by rw [hnonce]; rfl⟩
  refine hstart.run_of_accepted (fun k hk => ?_) ?_
  · rw [Nat.zero_add]
    exact hrejected k hk
  · rwa [Nat.zero_add]

/-! ## Verification (R233, R234) -/

theorem scalarInRange_iff (v : Nat) : scalarInRange v = true ↔ 1 ≤ v ∧ v < orderN := by
  simp only [scalarInRange, Bool.and_eq_true, decide_eq_true_eq]

/-- The two products of R234 by the loop over bit numbers, with the Fermat inverse of s (log entry 16). -/
theorem verifyPoint_eq (q : Point) (z r s : Nat) :
    verifyPoint q z r s =
      pointAdd (refPointMul (z * (s ^ (orderN - 2) % orderN) % orderN) pointG)
        (refPointMul (r * (s ^ (orderN - 2) % orderN) % orderN) q) := by
  simp only [verifyPoint, mulMod, modulus_orderN.invMod_eq, pointMul_eq_refPointMul]

/-- R234's verdict: the scalars are in range, and X is a point whose x mod n is r. -/
theorem verify_iff (q : Point) (z r s : Nat) :
    verify q z r s = true ↔
      (1 ≤ r ∧ r < orderN) ∧ (1 ≤ s ∧ s < orderN) ∧
        ∃ x y, verifyPoint q z r s = .affine x y ∧ x % orderN = r := by
  rw [verify, ← scalarInRange_iff r, ← scalarInRange_iff s]
  by_cases hrange : (scalarInRange r && scalarInRange s) = true
  · obtain ⟨hr, hs⟩ := Bool.and_eq_true_iff.mp hrange
    cases verifyPoint q z r s <;> simp [hr, hs]
  · rw [if_neg hrange, ← and_assoc, ← Bool.and_eq_true_iff]
    simp [hrange]

/-- Settles O45: the point is validated, then refused where it is O, and the verdict is R234's. -/
theorem everifyCommand : Obligations.EverifyCommand := by
  intro s pd ra rb rc
  simp only [ite_not]
  change ∃ t, execEverify pd ra rb rc s = .next t ∧ _
  refine validPoint_result ?_
  by_cases hinf : pinfBit s pd = true
  · simp only [if_pos hinf]
    exact raise_faulted s .key
  · simp only [if_neg hinf]
    refine ⟨_, rfl, _, _, rfl, rfl, ?_⟩
    rw [verify_iff, verifyPoint_eq, and_assoc, and_assoc]

end Sys2Proof.Machine

/-! # The ECDSA unit: the decoders (43_ecdsa.md R240, R241) -/

namespace Sys2Proof.Machine

/-! ## Big-endian integers (00_scope.md R12) -/

theorem intLe_append (xs ys : Bytes) : intLe (xs ++ ys) = intLe xs + 256 ^ xs.length * intLe ys := by
  induction xs with
  | nil => simp [intLe]
  | cons x xs ih =>
    rw [List.cons_append, intLe, intLe, ih, List.length_cons, Nat.pow_succ]
    ring

theorem intBe_cons (b : Byte) (bs : Bytes) : intBe (b :: bs) = b.toNat * 256 ^ bs.length + intBe bs := by
  rw [intBe, List.reverse_cons, intLe_append, List.length_reverse, intBe, intLe, intLe]
  ring

theorem intBe_lt (bs : Bytes) : intBe bs < 256 ^ bs.length := by
  simpa [intBe] using intLe_lt bs.reverse

theorem intBe_beBytes {k v : Nat} (hv : v < 256 ^ k) : intBe (beBytes k v) = v := by
  rw [intBe, beBytes, List.reverse_reverse, intLe_leBytes, Nat.mod_eq_of_lt hv]

theorem beBytes_intBe (bs : Bytes) : beBytes bs.length (intBe bs) = bs := by
  rw [beBytes, intBe, ← List.length_reverse, leBytes_intLe, List.reverse_reverse]

theorem slice_eq_take_drop (b : Bytes) (i j : Nat) : slice b i j = (b.drop i).take (j - i) := List.drop_take

/-! ## SEC_DECODE (R240) -/

theorem secUncompressed_eq_some {b : Bytes} {q : Point} :
    secUncompressed b = some q ↔
      pointValid (.affine (intBe (slice b 1 33)) (intBe (slice b 33 65))) = true ∧
        q = .affine (intBe (slice b 1 33)) (intBe (slice b 33 65)) := by
  simp only [secUncompressed, pointValid, Option.ite_none_right_eq_some, Option.some.injEq, Bool.and_eq_true,
    decide_eq_true_eq, and_assoc, eq_comm (b := q)]

/-- The root of R240 whose parity is that of `parity`. -/
def rootOfParity (beta parity : Nat) : Nat := if beta % 2 = parity % 2 then beta else primeP - beta

/-- The opposite of a root is a root. -/
theorem sub_sq_mod {p b : Nat} (h : b ≤ p) : (p - b) ^ 2 % p = b ^ 2 % p := by
  obtain ⟨c, rfl⟩ := Nat.exists_eq_add_of_le h
  rw [Nat.add_sub_cancel_left]
  calc c ^ 2 % (b + c) = (c ^ 2 + (b + c) * b) % (b + c) := (Nat.add_mul_mod_self_left _ _ _).symm
    _ = (b ^ 2 + (b + c) * c) % (b + c) := by ring_nf
    _ = b ^ 2 % (b + c) := Nat.add_mul_mod_self_left _ _ _

theorem rootOfParity_sq {beta : Nat} (h : beta ≤ primeP) (parity : Nat) :
    rootOfParity beta parity ^ 2 % primeP = beta ^ 2 % primeP := by
  unfold rootOfParity
  split
  · rfl
  · exact sub_sq_mod h

/-- p is odd, so of a root and its opposite exactly one is even. -/
theorem rootOfParity_mod_two {beta : Nat} (h : beta ≤ primeP) (parity : Nat) :
    rootOfParity beta parity % 2 = parity % 2 := by
  have hodd : primeP % 2 = 1 := by decide
  unfold rootOfParity
  split <;> omega

theorem sqrtCandidate_lt (a : Nat) : sqrtCandidate a < primeP := modulus_primeP.powMod_lt a sqrtExponent

/-- The compressed form gives an abscissa below p and the root of the right parity, where the candidate is a root. -/
theorem secCompressed_eq_some {b : Bytes} {q : Point} (h : secCompressed b = some q) :
    ∃ x beta, x = intBe (slice b 1 33) ∧ x < primeP ∧ beta < primeP ∧ beta ^ 2 % primeP = (x ^ 3 + 7) % primeP ∧
      q = .affine x (rootOfParity beta (b.getD 0 0).toNat) := by
  simp only [secCompressed, Option.ite_none_right_eq_some, Option.some.injEq] at h
  obtain ⟨hx, hroot, rfl⟩ := h
  refine ⟨_, _, rfl, hx, sqrtCandidate_lt _, ?_, rfl⟩
  simpa only [mulMod, curveB, Nat.pow_succ, Nat.pow_zero, Nat.one_mul] using hroot

theorem secDecode_cases {b : Bytes} {q : Point} (h : secDecode b = some q) :
    (b.length = 65 ∧ b.getD 0 0 = 0x04 ∧ secUncompressed b = some q) ∨
      (b.length = 33 ∧ (b.getD 0 0 = 0x02 ∨ b.getD 0 0 = 0x03) ∧ secCompressed b = some q) := by
  unfold secDecode at h
  split at h
  next hform => exact .inl ⟨hform.1, hform.2, h⟩
  split at h
  next hform => exact .inr ⟨hform.1, hform.2, h⟩
  next => cases h

/-- Every valid point comes back from its uncompressed form. -/
theorem secDecode_uncompressed {x y : Nat} (h : pointValid (.affine x y) = true) :
    secDecode (0x04 :: (beBytes 32 x ++ beBytes 32 y)) = some (.affine x y) := by
  obtain ⟨hx, hy, -⟩ := (pointValid_affine_iff x y).mp h
  have hfit {v : Nat} (hv : v < primeP) : v < 256 ^ 32 := hv.trans (by decide)
  have hsliceX : slice (0x04 :: (beBytes 32 x ++ beBytes 32 y)) 1 33 = beBytes 32 x := by
    simp [slice_eq_take_drop]
  have hsliceY : slice (0x04 :: (beBytes 32 x ++ beBytes 32 y)) 33 65 = beBytes 32 y := by
    simp [slice_eq_take_drop]
  rw [secDecode, if_pos (by simp), secUncompressed_eq_some, hsliceX, hsliceY, intBe_beBytes (hfit hx),
    intBe_beBytes (hfit hy)]
  exact ⟨h, rfl⟩

/-- Settles O47: the two forms R240 accepts, and the uncompressed form of a valid point. -/
theorem secDecodesPoints : Obligations.SecDecodesPoints := by
  refine ⟨fun b q h => ?_, fun x y => secDecode_uncompressed⟩
  have hsliceX : slice b 1 33 = (b.drop 1).take 32 := slice_eq_take_drop b 1 33
  rcases secDecode_cases h with ⟨hlen, hprefix, h⟩ | ⟨hlen, hprefix, h⟩
  · obtain ⟨hvalid, rfl⟩ := secUncompressed_eq_some.mp h
    obtain ⟨hx, hy, hcurve⟩ := (pointValid_affine_iff _ _).mp hvalid
    have hsliceY : slice b 33 65 = b.drop 33 := by
      rw [slice_eq_take_drop, List.take_of_length_le (by simp [hlen])]
    exact ⟨_, _, rfl, hx, hcurve, congrArg intBe hsliceX, .inl ⟨hlen, hprefix, congrArg intBe hsliceY, hy⟩⟩
  · obtain ⟨x, beta, hxb, hx, hbeta, hcurve, rfl⟩ := secCompressed_eq_some h
    exact ⟨x, _, rfl, hx, (rootOfParity_sq hbeta.le _).trans hcurve, hxb.trans (congrArg intBe hsliceX),
      .inr ⟨hlen, hprefix, rootOfParity_mod_two hbeta.le _⟩⟩

/-! ## DER integers (R241) -/

/-- The fewest bytes that hold `v` with the top bit of the first one clear. -/
def derLength (v : Nat) : Nat := (Nat.log2 v + 1) / 8 + 1

theorem derInt_eq (v : Nat) : derInt v = beBytes (derLength v) v := rfl

theorem derInt_length (v : Nat) : (derInt v).length = derLength v := beBytes_length _ _

theorem derLength_pos (v : Nat) : 1 ≤ derLength v := Nat.le_add_left 1 _

theorem log2_lt_iff {v k : Nat} (hk : 0 < k) : Nat.log2 v < k ↔ v < 2 ^ k := by
  by_cases hv : v = 0
  · subst hv
    simp [hk]
  · exact Nat.log2_lt hv

/-- `n` bytes hold `v` and a clear top bit. -/
theorem derLength_le_iff {v n : Nat} (hn : 1 ≤ n) : derLength v ≤ n ↔ v < 2 ^ (8 * n - 1) := by
  rw [← log2_lt_iff (by omega), derLength]
  omega

theorem intBe_derInt (v : Nat) : intBe (derInt v) = v := by
  refine intBe_beBytes ?_
  have hv : v < 2 ^ (8 * derLength v - 1) := (derLength_le_iff (derLength_pos v)).mp le_rfl
  calc v < 2 ^ (8 * derLength v - 1) := hv
    _ ≤ 2 ^ (8 * derLength v) := Nat.pow_le_pow_right (by decide) (Nat.sub_le _ _)
    _ = 256 ^ derLength v := Nat.pow_mul 2 8 _

/-- A byte string is the shortest encoding of its integer when it has that encoding's length. -/
theorem eq_derInt_intBe_iff {x : Bytes} : x = derInt (intBe x) ↔ derLength (intBe x) = x.length := by
  constructor
  · intro h
    rw [← derInt_length, ← h]
  · intro h
    rw [derInt_eq, h, beBytes_intBe]

theorem mul_add_lt_mul_iff {q t a m : Nat} (ht : t < m) : q * m + t < a * m ↔ q < a := by
  rw [← Nat.div_lt_iff_lt_mul (Nat.zero_lt_of_lt ht), Nat.mul_comm, Nat.mul_add_div (Nat.zero_lt_of_lt ht),
    Nat.div_eq_of_lt ht, Nat.add_zero]

theorem two_pow_eq_mul (n : Nat) : 2 ^ (8 * (n + 1) - 1) = 128 * 256 ^ n := by
  rw [show 8 * (n + 1) - 1 = 7 + 8 * n by omega, Nat.pow_add, Nat.pow_mul]

/-- Its own length is enough for a byte string's integer exactly when the string is not negative. -/
theorem derLength_intBe_le_iff (b : Byte) (bs : Bytes) :
    derLength (intBe (b :: bs)) ≤ (b :: bs).length ↔ b.toNat < 0x80 := by
  rw [List.length_cons, derLength_le_iff (Nat.succ_pos _), two_pow_eq_mul, intBe_cons,
    mul_add_lt_mul_iff (intBe_lt bs)]

/-- One byte less is enough exactly when the first byte is padding. -/
theorem derLength_intBe_lt_iff (b c : Byte) (bs : Bytes) :
    derLength (intBe (b :: c :: bs)) < (b :: c :: bs).length ↔ b = 0x00 ∧ c.toNat < 0x80 := by
  have hvalue : intBe (b :: c :: bs) = (b.toNat * 256 + c.toNat) * 256 ^ bs.length + intBe bs := by
    rw [intBe_cons, intBe_cons, List.length_cons, Nat.pow_succ]
    ring
  have hzero : b = 0x00 ↔ b.toNat = 0 := by simp [BitVec.toNat_eq]
  rw [List.length_cons, Nat.lt_succ_iff, List.length_cons, derLength_le_iff (Nat.succ_pos _), two_pow_eq_mul, hvalue,
    mul_add_lt_mul_iff (intBe_lt bs), hzero]
  have := c.isLt
  omega

/-- R241's two tests of an integer accept exactly the shortest encoding. -/
theorem derIntegerOk_iff {x : Bytes} (hx : x ≠ []) : derIntegerOk x = true ↔ x = derInt (intBe x) := by
  rw [eq_derInt_intBe_iff]
  match x with
  | [b] =>
    have hle := derLength_intBe_le_iff b []
    have hpos := derLength_pos (intBe [b])
    have hok : derIntegerOk [b] = true ↔ b.toNat < 0x80 := by simp [derIntegerOk]
    rw [hok, ← hle, List.length_singleton]
    omega
  | b :: c :: bs =>
    have hle := derLength_intBe_le_iff b (c :: bs)
    have hlt := derLength_intBe_lt_iff b c bs
    have hok : derIntegerOk (b :: c :: bs) = true ↔ b.toNat < 0x80 ∧ ¬ (b = 0x00 ∧ c.toNat < 0x80) := by
      simp [derIntegerOk, imp_iff_not_or]
    rw [hok, ← hle, ← hlt]
    omega

/-- What R241 accepts as an integer: 1 to 33 bytes, not negative and not padded. -/
def DerInteger (x : Bytes) : Prop := 1 ≤ x.length ∧ x.length ≤ 33 ∧ derIntegerOk x = true

theorem DerInteger.length_le {x : Bytes} (h : DerInteger x) : x.length ≤ 33 := by
  obtain ⟨-, hle, -⟩ := h
  exact hle

/-- These are the shortest encodings of the integers 33 bytes can hold. -/
theorem derInteger_iff {x : Bytes} : DerInteger x ↔ intBe x < 2 ^ 263 ∧ x = derInt (intBe x) := by
  have hbound : derLength (intBe x) ≤ 33 ↔ intBe x < 2 ^ 263 := by
    rw [derLength_le_iff (by decide), show 8 * 33 - 1 = 263 from rfl]
  have hlen : x = derInt (intBe x) → derLength (intBe x) = x.length := eq_derInt_intBe_iff.mp
  rw [← hbound]
  constructor
  · rintro ⟨hpos, hle, hok⟩
    have heq := (derIntegerOk_iff (List.ne_nil_of_length_pos hpos)).mp hok
    exact ⟨(hlen heq).trans_le hle, heq⟩
  · rintro ⟨hle, heq⟩
    have hpos : 1 ≤ x.length := hlen heq ▸ derLength_pos _
    exact ⟨hpos, hlen heq ▸ hle, (derIntegerOk_iff (List.ne_nil_of_length_pos hpos)).mpr heq⟩

theorem derInteger_derInt {v : Nat} : DerInteger (derInt v) ↔ v < 2 ^ 263 := by
  rw [derInteger_iff, intBe_derInt]
  exact and_iff_left rfl

/-! ## DER_DECODE (R241) -/

/-- The bytes of R241's layout around two integers. -/
def derFrame (x y : Bytes) : Bytes :=
  [0x30, BitVec.ofNat 8 (4 + x.length + y.length)] ++ ([0x02, BitVec.ofNat 8 x.length] ++ x) ++
    ([0x02, BitVec.ofNat 8 y.length] ++ y)

theorem derEncode_eq_derFrame (r s : Nat) : derEncode r s = derFrame (derInt r) (derInt s) := rfl

/-- A byte string long enough for its first length byte is two fields, each a tag, a length byte and contents, after
two header bytes. -/
theorem exists_der_fields {d : Bytes} (h : 6 + (d.getD 3 0).toNat ≤ d.length) :
    ∃ (a b c e : Byte) (x : Bytes) (f g : Byte) (y : Bytes),
      d = a :: b :: c :: e :: (x ++ f :: g :: y) ∧ x.length = e.toNat := by
  match d with
  | a :: b :: c :: e :: rest =>
    simp only [List.getD_cons_succ, List.getD_cons_zero, List.length_cons] at h
    obtain ⟨f, g, y, htail⟩ : ∃ f g y, rest.drop e.toNat = f :: g :: y := by
      match hdrop : rest.drop e.toNat with
      | f :: g :: y => exact ⟨f, g, y, rfl⟩
      | [] | [_] =>
        have hlen := congrArg List.length hdrop
        simp only [List.length_drop, List.length_cons, List.length_nil] at hlen
        exact absurd hlen (by omega)
    refine ⟨a, b, c, e, rest.take e.toNat, f, g, y, ?_, ?_⟩
    · rw [← htail, List.take_append_drop]
    · rw [List.length_take]
      omega
  | [] | [_] | [_, _] | [_, _, _] =>
    simp only [List.length_cons, List.length_nil] at h
    exact absurd h (by omega)

theorem byte_eq_ofNat_iff {b : Byte} {n : Nat} (hn : n < 256) : b = BitVec.ofNat 8 n ↔ b.toNat = n := by
  rw [← BitVec.toNat_inj, BitVec.toNat_ofNat, Nat.mod_eq_of_lt hn]

section Fields
variable (a b c e f g : Byte) (x y : Bytes)

theorem getD_der_tail (k : Nat) :
    (a :: b :: c :: e :: (x ++ f :: g :: y)).getD (k + 4 + x.length) 0 = (f :: g :: y).getD k 0 := by
  have hindex : k + 4 + x.length = x.length + k + 4 := by omega
  simp [hindex, List.getD_eq_getElem?_getD, List.getElem?_append_right]

theorem slice_der_first : slice (a :: b :: c :: e :: (x ++ f :: g :: y)) 4 (4 + x.length) = x := by
  simp [slice_eq_take_drop]

theorem slice_der_second :
    slice (a :: b :: c :: e :: (x ++ f :: g :: y)) (6 + x.length) (6 + x.length + y.length) = y := by
  have hindex : 6 + x.length = x.length + 2 + 4 := by omega
  simp [slice_eq_take_drop, hindex]

end Fields

/-- The checks of R241 on the fields. -/
theorem derDecode_fields {a b c e f g : Byte} {x y : Bytes} (hx : x.length = e.toNat) (r s : Nat) :
    derDecode (a :: b :: c :: e :: (x ++ f :: g :: y)) = some (r, s) ↔
      DerInteger x ∧ DerInteger y ∧ a = 0x30 ∧ b.toNat = 4 + x.length + y.length ∧ c = 0x02 ∧ f = 0x02 ∧
        g.toNat = y.length ∧ intBe x = r ∧ intBe y = s := by
  have hlen : (a :: b :: c :: e :: (x ++ f :: g :: y)).length = 6 + x.length + y.length := by
    simp only [List.length_cons, List.length_append]
    omega
  have hf : (a :: b :: c :: e :: (x ++ f :: g :: y)).getD (4 + x.length) 0 = f := by
    simpa using getD_der_tail a b c e f g x y 0
  have hg : (a :: b :: c :: e :: (x ++ f :: g :: y)).getD (5 + x.length) 0 = g := by
    simpa using getD_der_tail a b c e f g x y 1
  simp only [derDecode, Option.ite_none_left_eq_some]
  simp only [hlen, List.getD_cons_zero, List.getD_cons_succ, ← hx, hf, hg, slice_der_first, not_or, not_not,
    Bool.not_eq_true, Bool.not_eq_false', Bool.and_eq_true, Option.some.injEq, Prod.mk.injEq]
  constructor
  · rintro ⟨-, ⟨ha, hb⟩, hc, ⟨hx1, hx2, -⟩, hf, ⟨hy1, hy2, hend⟩, ⟨hokx, hoky⟩, hr, hs⟩
    have hlens : g.toNat = y.length := by omega
    rw [hlens, slice_der_second] at hoky hs
    exact ⟨⟨by omega, by omega, hokx⟩, ⟨by omega, by omega, hoky⟩, ha, by omega, hc, hf, hlens, hr, hs⟩
  · rintro ⟨⟨hx1, hx2, hokx⟩, ⟨hy1, hy2, hoky⟩, ha, hb, hc, hf, hlens, hr, hs⟩
    rw [hlens, slice_der_second]
    exact ⟨by omega, ⟨ha, by omega⟩, hc, by omega, hf, by omega, ⟨hokx, hoky⟩, hr, hs⟩

/-- The header of R241's layout is what the checks ask of it. -/
theorem der_fields_eq_derFrame_iff {a b c e f g : Byte} {x y : Bytes} (hx : x.length = e.toNat)
    (hx33 : x.length ≤ 33) (hy33 : y.length ≤ 33) :
    a :: b :: c :: e :: (x ++ f :: g :: y) = derFrame x y ↔
      a = 0x30 ∧ b.toNat = 4 + x.length + y.length ∧ c = 0x02 ∧ f = 0x02 ∧ g.toNat = y.length := by
  have he : e = BitVec.ofNat 8 x.length := (byte_eq_ofNat_iff (by omega)).mpr hx.symm
  simp only [derFrame, List.cons_append, List.nil_append, List.cons.injEq, List.append_cancel_left_eq,
    byte_eq_ofNat_iff (show 4 + x.length + y.length < 256 by omega), byte_eq_ofNat_iff (show y.length < 256 by omega),
    ← he, true_and, and_true]

/-- What is accepted is the layout around two integers, and it gives them back. -/
theorem derDecode_eq_some_iff {d : Bytes} {r s : Nat} :
    derDecode d = some (r, s) ↔
      ∃ x y, DerInteger x ∧ DerInteger y ∧ d = derFrame x y ∧ intBe x = r ∧ intBe y = s := by
  constructor
  · intro h
    have hroom : 6 + (d.getD 3 0).toNat ≤ d.length := by
      simp only [derDecode, Option.ite_none_left_eq_some] at h
      obtain ⟨-, -, -, hroom, -⟩ := h
      omega
    obtain ⟨a, b, c, e, x, f, g, y, rfl, hx⟩ := exists_der_fields hroom
    obtain ⟨hdx, hdy, ha, hb, hc, hf, hg, hr, hs⟩ := (derDecode_fields hx r s).mp h
    have hframe := (der_fields_eq_derFrame_iff hx hdx.length_le hdy.length_le).mpr ⟨ha, hb, hc, hf, hg⟩
    exact ⟨x, y, hdx, hdy, hframe, hr, hs⟩
  · rintro ⟨x, y, hdx, hdy, rfl, hr, hs⟩
    have hbyte : x.length < 256 := hdx.length_le.trans_lt (by decide)
    have hx : x.length = (BitVec.ofNat 8 x.length).toNat := ((byte_eq_ofNat_iff hbyte).mp rfl).symm
    obtain ⟨ha, hb, hc, hf, hg⟩ := (der_fields_eq_derFrame_iff hx hdx.length_le hdy.length_le).mp rfl
    exact (derDecode_fields hx r s).mpr ⟨hdx, hdy, ha, hb, hc, hf, hg, hr, hs⟩

/-- Settles O46: the two integers are accepted in their shortest encoding alone (`derInteger_iff`), which is `derInt`. -/
theorem derDecodesExactlyCanonical : Obligations.DerDecodesExactlyCanonical := by
  intro d r s
  rw [derDecode_eq_some_iff, derEncode_eq_derFrame]
  constructor
  · rintro ⟨x, y, hx, hy, rfl, rfl, rfl⟩
    obtain ⟨hr, hxeq⟩ := derInteger_iff.mp hx
    obtain ⟨hs, hyeq⟩ := derInteger_iff.mp hy
    exact ⟨hr, hs, by rw [← hxeq, ← hyeq]⟩
  · rintro ⟨hr, hs, rfl⟩
    exact ⟨_, _, derInteger_derInt.mpr hr, derInteger_derInt.mpr hs, rfl, intBe_derInt r, intBe_derInt s⟩

end Sys2Proof.Machine

/-! # The script opcode map and SCRIPT_PARSE (30_encoding.md R109, R110; 44_script.md R261) -/

namespace Sys2Proof.Machine

/-! ## What R110's map says of each first byte

`scriptRows` is the decoder's map. Here each of its 256 rows is held once against the encoder and against the shapes the
claims use (`rowMatches`); the proofs after it go by the row of a byte and never by the 256 commands. -/

/-- The bytes outside the supported set (R276). -/
abbrev UnsupportedByte (b : Byte) : Prop :=
  b = 0x4F ∨ b = 0x50 ∨ (0x61 ≤ b.toNat ∧ b.toNat ≤ 0x75) ∨ (0x77 ≤ b.toNat ∧ b.toNat ≤ 0x87) ∨
    (0x89 ≤ b.toNat ∧ b.toNat ≤ 0xA8) ∨ b = 0xAA ∨ b = 0xAB ∨ 0xAD ≤ b.toNat

/-- What an opcode byte pushes: OP_0 and OP_1 to OP_16 (R270, R271). -/
def opcodePush (b : Byte) : Option Bytes :=
  if b = 0x00 then some [] else if 0x51 ≤ b.toNat ∧ b.toNat ≤ 0x60 then some [b - 0x50] else none

/-- Byte `b` is the opcode `i`. -/
structure OpcodeRow (b : Byte) (i : Instr) : Prop where
  encoded : encode i = .script [b]
  wf : i.wf = true
  no_length : b.toNat = 0 ∨ 0x4E < b.toNat
  pushes : pushedBytes i = opcodePush b
  unsupported : isUnsupported i = true ↔ UnsupportedByte b

/-- Byte `b` is PUSHBYTES_n. -/
structure PushRow (b : Byte) (n : Nat) (mk : Bytes → Instr) : Prop where
  length : n = b.toNat
  range : 0x01 ≤ b.toNat ∧ b.toNat ≤ 0x4B
  encoded : ∀ d, encode (mk d) = .script (b :: d)
  wf : ∀ d, (mk d).wf = (d.length == n)
  pushes : ∀ d, pushedBytes (mk d) = some d
  supported : ∀ d, isUnsupported (mk d) = false

/-- Byte `b` is the OP_PUSHDATA with an n-byte length field. -/
structure PushDataRow (b : Byte) (n : Nat) (mk : Bytes → Instr) : Prop where
  field : (b = 0x4C ∧ n = 1) ∨ (b = 0x4D ∧ n = 2) ∨ (b = 0x4E ∧ n = 4)
  encoded : ∀ d, encode (mk d) = .script (b :: (leBytes n d.length ++ d))
  wf : ∀ d, (mk d).wf = decide (d.length < 256 ^ n)
  pushes : ∀ d, pushedBytes (mk d) = some d
  supported : ∀ d, isUnsupported (mk d) = false

/-- A row says of its byte what the encoder says. -/
def RowMatches (b : Byte) : ScriptRow → Prop
  | .op i => OpcodeRow b i
  | .push n mk => PushRow b n mk
  | .pushData n mk => PushDataRow b n mk

/-- The rows of a table are those of the bytes from `k` on. -/
def RowsMatch : Nat → List ScriptRow → Prop
  | _, [] => True
  | k, row :: rows => RowMatches (BitVec.ofNat 8 k) row ∧ RowsMatch (k + 1) rows

/-- A table is its first `n` rows and the rows after them. -/
theorem rowsMatch_of_take_drop {k n : Nat} {rows : List ScriptRow} (hfirst : RowsMatch k (rows.take n))
    (hrest : RowsMatch (k + n) (rows.drop n)) : RowsMatch k rows := by
  induction n generalizing k rows with
  | zero => exact hrest
  | succ n ih =>
    cases rows with
    | nil => trivial
    | cons row rows =>
      obtain ⟨hrow, hrows⟩ := hfirst
      rw [Nat.add_comm n, ← Nat.add_assoc, Nat.add_comm 1 n] at hrest
      exact ⟨hrow, ih hrows hrest⟩

theorem rowsMatch_getElem {k : Nat} {rows : List ScriptRow} (h : RowsMatch k rows) {j : Nat} (hj : j < rows.length) :
    RowMatches (BitVec.ofNat 8 (k + j)) rows[j] := by
  induction rows generalizing k j with
  | nil => exact absurd hj (Nat.not_lt_zero j)
  | cons row rows ih =>
    obtain ⟨hrow, hrows⟩ := h
    cases j with
    | zero => exact hrow
    | succ j =>
      have := ih hrows (Nat.lt_of_succ_lt_succ hj)
      rwa [Nat.add_assoc, Nat.add_comm 1] at this

/-- The rows 01h to 4Bh: PUSHBYTES_1 to PUSHBYTES_75. -/
theorem rowsMatch_pushBytes : RowsMatch 0x01 ((scriptRows.drop 0x01).take 75) := by
  repeat' apply And.intro
  on_goal -1 => trivial
  all_goals exact PushRow.mk rfl (by decide) (fun _ => rfl) (fun _ => rfl) (fun _ => rfl) (fun _ => rfl)

/-- The rows 4Ch to 4Eh: OP_PUSHDATA1, 2 and 4. -/
theorem rowsMatch_pushData : RowsMatch 0x4C ((scriptRows.drop 0x4C).take 3) := by
  repeat' apply And.intro
  on_goal -1 => trivial
  all_goals exact PushDataRow.mk (by decide) (fun _ => rfl) (fun _ => rfl) (fun _ => rfl) (fun _ => rfl)

/-- The rows from 4Fh on: opcodes. -/
theorem rowsMatch_opcodes : RowsMatch 0x4F (scriptRows.drop 0x4F) := by
  repeat' apply And.intro
  on_goal -1 => trivial
  all_goals apply OpcodeRow.mk
  all_goals decide

theorem rowsMatch_scriptRows : RowsMatch 0x00 scriptRows := by
  have hop0 : RowsMatch 0x00 (scriptRows.take 1) := ⟨⟨rfl, rfl, by decide, rfl, by decide⟩, trivial⟩
  refine rowsMatch_of_take_drop hop0 (rowsMatch_of_take_drop rowsMatch_pushBytes ?_)
  rw [List.drop_drop]
  refine rowsMatch_of_take_drop rowsMatch_pushData ?_
  rw [List.drop_drop]
  exact rowsMatch_opcodes

theorem scriptRows_length : scriptRows.length = 256 := by
  rw [scriptRows]
  simp only [List.length_append]
  rfl

/-- Every byte's row says of it what the encoder says. -/
theorem scriptRow_matches (b : Byte) : RowMatches b (scriptRow b) := by
  have hb : b.toNat < scriptRows.length := scriptRows_length.symm ▸ b.isLt
  have h := rowsMatch_getElem rowsMatch_scriptRows hb
  rwa [Nat.zero_add, BitVec.ofNat_toNat, BitVec.setWidth_eq, ← List.getD_eq_getElem _ (.op .op0) hb] at h

/-! ## Decode, then encode -/

theorem splitBytes_eq_ok {k : Nat} {bs d rest : Bytes} {e : DecodeError} :
    splitBytes k bs e = .ok (d, rest) ↔ bs = d ++ rest ∧ d.length = k := by
  constructor
  · intro h
    unfold splitBytes at h
    split at h
    next hk =>
      obtain ⟨rfl, rfl⟩ : bs.take k = d ∧ bs.drop k = rest := by simpa using h
      exact ⟨(List.take_append_drop k bs).symm, List.length_take_of_le hk⟩
    next => cases h
  · rintro ⟨rfl, hd⟩
    exact splitBytes_append hd rest e

/-- A script command that was read is well formed, and the bytes it was read from are its encoding. -/
theorem encode_of_decodeScript {body rest : Bytes} {i : Instr} (h : decodeScript body = .ok (i, rest)) :
    i.wf = true ∧ ∃ bs, encode i = .script bs ∧ body = bs ++ rest := by
  cases body with
  | nil => cases h
  | cons b more =>
    have hmatch := scriptRow_matches b
    rw [decodeScript_cons] at h
    cases hrow : scriptRow b with
    | op j =>
      rw [hrow] at h hmatch
      obtain ⟨rfl, rfl⟩ : j = i ∧ more = rest := by simpa [decodeRow] using h
      exact ⟨hmatch.wf, _, hmatch.encoded, rfl⟩
    | push n mk =>
      rw [hrow] at h hmatch
      obtain ⟨d, hsplit, rfl⟩ : ∃ d, splitBytes n more .truncatedPush = .ok (d, rest) ∧ mk d = i := by
        simpa [decodeRow] using h
      obtain ⟨rfl, hlength⟩ := splitBytes_eq_ok.mp hsplit
      exact ⟨by rw [hmatch.wf, beq_iff_eq, hlength], _, hmatch.encoded d, rfl⟩
    | pushData n mk =>
      rw [hrow] at h hmatch
      obtain ⟨l, tail, hfield, d, hsplit, rfl⟩ : ∃ l tail, splitBytes n more .truncatedLength = .ok (l, tail) ∧
          ∃ d, splitBytes (intLe l) tail .truncatedPush = .ok (d, rest) ∧ mk d = i := by
        simpa [decodeRow] using h
      obtain ⟨rfl, rfl⟩ := splitBytes_eq_ok.mp hfield
      obtain ⟨rfl, hlength⟩ := splitBytes_eq_ok.mp hsplit
      refine ⟨by rw [hmatch.wf, decide_eq_true_eq, hlength]; exact intLe_lt l, _, hmatch.encoded d, ?_⟩
      rw [hlength, leBytes_intLe, List.cons_append, List.append_assoc]

/-- The decoder reads a script command exactly where its encoding stands. -/
theorem decodeScript_eq_ok_iff {body rest : Bytes} {i : Instr} :
    decodeScript body = .ok (i, rest) ↔ i.wf = true ∧ ∃ bs, encode i = .script bs ∧ body = bs ++ rest := by
  refine ⟨encode_of_decodeScript, ?_⟩
  rintro ⟨hwf, bs, henc, rfl⟩
  exact scriptEncodeThenDecode i bs rest hwf henc

theorem script_encode_ne_nil {i : Instr} {bs : Bytes} (h : encode i = .script bs) : bs ≠ [] := by
  have hscript : (scriptOf i).isSome = true := by rw [scriptOf, h]; rfl
  rintro rfl
  rcases script_command_forms hscript with ⟨b, henc, -⟩ | ⟨b, d, n, mk, henc, -⟩ | ⟨b, d, n, mk, henc, -⟩
  all_goals simp [henc] at h

/-- Every command takes a byte. -/
theorem length_lt_of_encode {i : Instr} {body bs rest : Bytes} (henc : encode i = .script bs)
    (hbody : body = bs ++ rest) : rest.length < body.length := by
  have hbs := List.length_pos_iff.mpr (script_encode_ne_nil henc)
  rw [hbody, List.length_append]
  omega

/-! ## SCRIPT_PARSE of whole bodies (R261) -/

theorem scriptOf_eq_some {i : Instr} {bs : Bytes} : scriptOf i = some bs ↔ encode i = .script bs := by
  unfold scriptOf
  split <;> simp [*]


/-- The first command's encoding stands before the bytes of the others. -/
theorem commandsOf_cons {body : Bytes} {i : Instr} {prog : List Instr} :
    CommandsOf body (i :: prog) ↔
      ∃ bs rest, i.wf = true ∧ encode i = .script bs ∧ body = bs ++ rest ∧ CommandsOf rest prog := by
  constructor
  · rintro ⟨hall, rfl⟩
    obtain ⟨⟨hwf, hscript⟩, hprog⟩ := List.forall_mem_cons.mp hall
    obtain ⟨bs, hbs⟩ := Option.isSome_iff_exists.mp hscript
    exact ⟨bs, _, hwf, scriptOf_eq_some.mp hbs, by rw [List.flatMap_cons, hbs, Option.getD_some], hprog, rfl⟩
  · rintro ⟨bs, rest, hwf, henc, rfl, hprog, rfl⟩
    have hbs := scriptOf_eq_some.mpr henc
    exact ⟨List.forall_mem_cons.mpr ⟨⟨hwf, by rw [hbs]; rfl⟩, hprog⟩, by
      rw [List.flatMap_cons, hbs, Option.getD_some]⟩

theorem CommandsOf.length_le {body : Bytes} {prog : List Instr} (h : CommandsOf body prog) :
    prog.length ≤ body.length := by
  induction prog generalizing body with
  | nil => exact Nat.zero_le _
  | cons i prog ih =>
    obtain ⟨bs, rest, -, henc, rfl, hrest⟩ := commandsOf_cons.mp h
    exact (ih hrest).trans_lt (length_lt_of_encode henc rfl)

theorem commandsOf_nil {prog : List Instr} : CommandsOf [] prog ↔ prog = [] := by
  constructor
  · exact fun h => List.length_eq_zero_iff.mp (Nat.le_zero.mp h.length_le)
  · rintro rfl
    exact ⟨by simp, rfl⟩

theorem parseScriptFuel_nil (fuel : Nat) : parseScriptFuel fuel [] = .ok [] := by cases fuel <;> rfl

theorem parseScriptFuel_cons_eq_ok {fuel : Nat} {b : Byte} {bs : Bytes} {prog : List Instr} :
    parseScriptFuel (fuel + 1) (b :: bs) = .ok prog ↔
      ∃ i rest more, decodeScript (b :: bs) = .ok (i, rest) ∧ parseScriptFuel fuel rest = .ok more ∧
        i :: more = prog := by
  simp [parseScriptFuel]

/-- With a turn for each byte, the parse succeeds exactly on the encodings of its result. -/
theorem parseScriptFuel_eq_ok_iff {fuel : Nat} {body : Bytes} (hfuel : body.length ≤ fuel) {prog : List Instr} :
    parseScriptFuel fuel body = .ok prog ↔ CommandsOf body prog := by
  induction fuel generalizing body prog with
  | zero =>
    obtain rfl := List.length_eq_zero_iff.mp (Nat.le_zero.mp hfuel)
    rw [parseScriptFuel_nil, commandsOf_nil, Except.ok.injEq, eq_comm]
  | succ fuel ih =>
    cases body with
    | nil => rw [parseScriptFuel_nil, commandsOf_nil, Except.ok.injEq, eq_comm]
    | cons b bs =>
      rw [parseScriptFuel_cons_eq_ok]
      constructor
      · rintro ⟨i, rest, more, hdecode, hmore, rfl⟩
        obtain ⟨hwf, enc, henc, hbody⟩ := encode_of_decodeScript hdecode
        have hrest := Nat.le_of_lt_succ ((length_lt_of_encode henc hbody).trans_le hfuel)
        exact commandsOf_cons.mpr ⟨enc, rest, hwf, henc, hbody, (ih hrest).mp hmore⟩
      · intro h
        cases prog with
        | nil => cases h.2
        | cons i prog =>
          obtain ⟨enc, rest, hwf, henc, hbody, hprog⟩ := commandsOf_cons.mp h
          have hrest := Nat.le_of_lt_succ ((length_lt_of_encode henc hbody).trans_le hfuel)
          exact ⟨i, rest, prog, decodeScript_eq_ok_iff.mpr ⟨hwf, enc, henc, hbody⟩, (ih hrest).mpr hprog, rfl⟩

/-- Settles O5: a body's length is fuel enough. -/
theorem scriptBodyIsItsCommands : Obligations.ScriptBodyIsItsCommands :=
  fun _ _ => parseScriptFuel_eq_ok_iff le_rfl

end Sys2Proof.Machine

/-! # The script VM (44_script.md R262 to R288) -/

namespace Sys2Proof.Machine

/-! ## Script commands by the row of their first byte -/

/-- Every script command has its row in R110's map: an opcode, or a push of its data. -/
theorem script_command_rows {i : Instr} (h : (scriptOf i).isSome = true) :
    (∃ b, OpcodeRow b i) ∨ (∃ b n mk d, PushRow b n mk ∧ i = mk d) ∨ (∃ b n mk d, PushDataRow b n mk ∧ i = mk d) := by
  rcases script_command_forms h with
    ⟨b, -, hrow⟩ | ⟨b, d, n, mk, -, hrow, hi, -⟩ | ⟨b, d, n, mk, -, hrow, hi, -⟩
  all_goals
    have hmatch := scriptRow_matches b
    rw [hrow] at hmatch
  · exact .inl ⟨b, hmatch⟩
  · exact .inr (.inl ⟨b, n, mk, d, hmatch, hi⟩)
  · exact .inr (.inr ⟨b, n, mk, d, hmatch, hi⟩)

theorem scriptOf_isSome_of_encode {i : Instr} {bs : Bytes} (h : encode i = .script bs) : (scriptOf i).isSome = true :=
  Option.isSome_iff_exists.mpr ⟨bs, scriptOf_eq_some.mpr h⟩

theorem scriptOf_isSome_of_pushedBytes {i : Instr} {x : Bytes} (h : pushedBytes i = some x) :
    (scriptOf i).isSome = true := by
  cases i
  all_goals cases h
  all_goals rfl

theorem scriptOf_isSome_of_isUnsupported {i : Instr} (h : isUnsupported i = true) : (scriptOf i).isSome = true := by
  cases i
  all_goals cases h
  all_goals rfl

theorem opcodePush_eq_some {b : Byte} {x : Bytes} :
    opcodePush b = some x ↔ (b = 0x00 ∧ x = []) ∨ (0x51 ≤ b.toNat ∧ b.toNat ≤ 0x60 ∧ x = [b - 0x50]) := by
  unfold opcodePush
  split
  next h => simp [h, eq_comm]
  next h =>
    simp only [h, false_and, false_or, Option.ite_none_right_eq_some, Option.some.injEq, and_assoc,
      @eq_comm _ [b - 0x50] x]

/-- The unsupported bytes lie after the pushes and are none of the supported opcodes. -/
theorem UnsupportedByte.ranges {b : Byte} (h : UnsupportedByte b) :
    0x4E < b.toNat ∧ ¬ (0x51 ≤ b.toNat ∧ b.toNat ≤ 0x60) ∧ b ≠ 0x76 ∧ b ≠ 0xA9 ∧ b ≠ 0x88 ∧ b ≠ 0xAC := by
  simp only [UnsupportedByte, ne_eq, BitVec.toNat_eq, BitVec.reduceToNat] at h ⊢
  omega

/-- The unsupported opcodes are those whose one byte is outside the supported set. -/
theorem isUnsupported_iff (i : Instr) : isUnsupported i = true ↔ ∃ b, encode i = .script [b] ∧ UnsupportedByte b := by
  constructor
  · intro h
    rcases script_command_rows (scriptOf_isSome_of_isUnsupported h) with
      ⟨b, hrow⟩ | ⟨b, n, mk, d, hrow, rfl⟩ | ⟨b, n, mk, d, hrow, rfl⟩
    · exact ⟨b, hrow.encoded, hrow.unsupported.mp h⟩
    · exact Bool.noConfusion ((hrow.supported d).symm.trans h)
    · exact Bool.noConfusion ((hrow.supported d).symm.trans h)
  · rintro ⟨b, henc, hb⟩
    obtain ⟨hgt, -⟩ := hb.ranges
    rcases script_command_rows (scriptOf_isSome_of_encode henc) with
      ⟨c, hrow⟩ | ⟨c, n, mk, d, hrow, rfl⟩ | ⟨c, n, mk, d, hrow, rfl⟩
    · obtain ⟨rfl, -⟩ := List.cons.inj (Encoding.script.inj (henc.symm.trans hrow.encoded))
      exact hrow.unsupported.mpr hb
    · obtain ⟨rfl, -⟩ := List.cons.inj (Encoding.script.inj (henc.symm.trans (hrow.encoded d)))
      have := hrow.range
      omega
    · obtain ⟨rfl, -⟩ := List.cons.inj (Encoding.script.inj (henc.symm.trans (hrow.encoded d)))
      rcases hrow.field with ⟨rfl, -⟩ | ⟨rfl, -⟩ | ⟨rfl, -⟩
      all_goals exact absurd hgt (by decide)

/-- A command with bytes to push is OP_0, OP_1 to OP_16, or a data push in one of its forms (R269 to R271). -/
theorem pushedBytes_encoding {i : Instr} {x : Bytes} (hwf : i.wf = true) (h : pushedBytes i = some x) :
    ∃ b rest, encode i = .script (b :: rest) ∧
      ((b = 0x00 ∧ rest = [] ∧ x = []) ∨
        (0x51 ≤ b.toNat ∧ b.toNat ≤ 0x60 ∧ rest = [] ∧ x = [b - 0x50]) ∨
        (0x01 ≤ b.toNat ∧ b.toNat ≤ 0x4B ∧ rest = x ∧ x.length = b.toNat) ∨
        (b = 0x4C ∧ rest = leBytes 1 x.length ++ x ∧ x.length < 2 ^ 8) ∨
        (b = 0x4D ∧ rest = leBytes 2 x.length ++ x ∧ x.length < 2 ^ 16) ∨
        (b = 0x4E ∧ rest = leBytes 4 x.length ++ x ∧ x.length < 2 ^ 32)) := by
  rcases script_command_rows (scriptOf_isSome_of_pushedBytes h) with
    ⟨b, hrow⟩ | ⟨b, n, mk, d, hrow, rfl⟩ | ⟨b, n, mk, d, hrow, rfl⟩
  · refine ⟨b, [], hrow.encoded, ?_⟩
    rcases opcodePush_eq_some.mp (hrow.pushes.symm.trans h) with ⟨hb, hx⟩ | ⟨hlo, hhi, hx⟩
    · exact .inl ⟨hb, rfl, hx⟩
    · exact .inr (.inl ⟨hlo, hhi, rfl, hx⟩)
  · obtain rfl : d = x := Option.some.inj ((hrow.pushes d).symm.trans h)
    rw [hrow.wf, beq_iff_eq] at hwf
    exact ⟨b, d, hrow.encoded d, .inr (.inr (.inl ⟨hrow.range.1, hrow.range.2, rfl, hwf.trans hrow.length⟩))⟩
  · obtain rfl : d = x := Option.some.inj ((hrow.pushes d).symm.trans h)
    rw [hrow.wf, decide_eq_true_eq] at hwf
    refine ⟨b, _, hrow.encoded d, ?_⟩
    rcases hrow.field with ⟨rfl, rfl⟩ | ⟨rfl, rfl⟩ | ⟨rfl, rfl⟩
    · exact .inr (.inr (.inr (.inl ⟨rfl, rfl, hwf⟩)))
    · exact .inr (.inr (.inr (.inr (.inl ⟨rfl, rfl, hwf⟩))))
    · exact .inr (.inr (.inr (.inr (.inr ⟨rfl, rfl, hwf⟩))))

/-! ## Commands against EVAL's (R261, R280)

`refExec` is the spec's meaning of one parsed command on the stack and CHKFAIL. `afterCommand` is the machine's state
after a command with that outcome; `exec_eq_afterCommand` says that it is what every script command answers. -/

/-- The command of R261 that an instruction is: its opcode byte, or the data it pushes. -/
def refCommandOf (i : Instr) : RefCommand :=
  match scriptOf i with
  | some [b] => .op b
  | _ => .data ((pushedBytes i).getD [])

theorem OpcodeRow.refCommandOf {b : Byte} {i : Instr} (h : OpcodeRow b i) : refCommandOf i = .op b := by
  simp [Machine.refCommandOf, scriptOf_eq_some.mpr h.encoded]

theorem PushRow.refCommandOf {b : Byte} {n : Nat} {mk : Bytes → Instr} (h : PushRow b n mk) {d : Bytes}
    (hd : d.length = n) : refCommandOf (mk d) = .data d := by
  have hrange := h.range
  have hlength := h.length
  cases d with
  | nil => rw [List.length_nil] at hd; omega
  | cons c d => simp [Machine.refCommandOf, scriptOf_eq_some.mpr (h.encoded (c :: d)), h.pushes]

theorem PushDataRow.refCommandOf {b : Byte} {n : Nat} {mk : Bytes → Instr} (h : PushDataRow b n mk) (d : Bytes) :
    refCommandOf (mk d) = .data d := by
  have henc := scriptOf_eq_some.mpr (h.encoded d)
  rcases h.field with ⟨-, rfl⟩ | ⟨-, rfl⟩ | ⟨-, rfl⟩
  all_goals simp [Machine.refCommandOf, henc, h.pushes, leBytes]

/-- What EVAL reads and writes of the VM state. -/
def refVmOf (v : Vm) : RefVm := { stack := v.stack, chkfail := v.chkfail }

/-- The digest OP_CHECKSIG checks: SIGHASH_Z of input INIDX against the whole of SPKBUF (R275, R307). -/
def vmDigest (s : State) (v : Vm) : Nat := sighashZ v.tx s.inidx.toNat (spkBytes s)

/-- The state after a script command whose outcome is `fail(reason)`, or a stack and CHKFAIL to go on with. -/
def afterCommand (s : State) (v : Vm) : Except Reason RefVm → State
  | .error reason => finishScript s reason
  | .ok w => { s with vm := some { v with ip := v.ip + 1, stack := w.stack, chkfail := w.chkfail } }

section Commands
variable {s : State} {v : Vm}

theorem scriptEnded_afterCommand (r : Reason) : ScriptEnded s (afterCommand s v (.error r)) r :=
  scriptEnded_finishScript s r

theorem scriptWentOn_afterCommand (w : RefVm) : ScriptWentOn s (afterCommand s v (.ok w)) v w.stack w.chkfail := rfl

/-- A push with its two limits in their order (R264). -/
theorem push_outcome (w : RefVm) (x : Bytes) :
    if 520 < x.length then ScriptEnded s (afterCommand s v (refPush w x)) .elemSize
    else if w.stack.length = 1000 then ScriptEnded s (afterCommand s v (refPush w x)) .stackOverflow
    else ScriptWentOn s (afterCommand s v (refPush w x)) v (x :: w.stack) w.chkfail := by
  unfold refPush
  split
  next => exact scriptEnded_afterCommand _
  next =>
    split
    next => exact scriptEnded_afterCommand _
    next => exact scriptWentOn_afterCommand _

theorem vmPush_eq_afterCommand (v : Vm) (w : RefVm) (x : Bytes) :
    vmPush s { v with chkfail := w.chkfail } w.stack x = .next (afterCommand s v (refPush w x)) := by
  unfold vmPush refPush
  split
  next h => rw [if_pos (show x.length > 520 from h)]; rfl
  next h =>
    rw [if_neg (show ¬ x.length > 520 from h)]
    split
    next h => rw [if_pos (show w.stack.length = 1000 from h)]; rfl
    next h => rw [if_neg (show ¬ w.stack.length = 1000 from h)]; rfl

theorem pushData_eq_afterCommand (hv : s.vm = some v) (x : Bytes) :
    pushData s x = .next (afterCommand s v (refPush (refVmOf v) x)) :=
  (withVm_of_some _ hv).trans (vmPush_eq_afterCommand v (refVmOf v) x)

theorem refExec_of_pushedBytes {i : Instr} {x : Bytes} (hwf : i.wf = true) (h : pushedBytes i = some x) (z : Nat)
    (w : RefVm) : refExec z w (refCommandOf i) = refPush w x := by
  rcases script_command_rows (scriptOf_isSome_of_pushedBytes h) with
    ⟨b, hrow⟩ | ⟨b, n, mk, d, hrow, rfl⟩ | ⟨b, n, mk, d, hrow, rfl⟩
  · rw [hrow.refCommandOf]
    rcases opcodePush_eq_some.mp (hrow.pushes.symm.trans h) with ⟨rfl, rfl⟩ | ⟨hlo, hhi, rfl⟩
    · rfl
    · have hne : b ≠ 0x00 := by rintro rfl; exact absurd hlo (by decide)
      have hbyte : BitVec.ofNat 8 (b.toNat - 0x50) = b - 0x50 := by bv_omega
      simp only [refExec, if_neg hne, if_pos (And.intro hlo hhi), hbyte]
  · rw [hrow.wf, beq_iff_eq] at hwf
    rw [hrow.refCommandOf hwf, Option.some.inj ((hrow.pushes d).symm.trans h)]
    rfl
  · rw [hrow.refCommandOf, Option.some.inj ((hrow.pushes d).symm.trans h)]
    rfl

theorem refExec_of_isUnsupported {i : Instr} (h : isUnsupported i = true) (z : Nat) (w : RefVm) :
    refExec z w (refCommandOf i) = .error .badOpcode := by
  obtain ⟨b, henc, hb⟩ := (isUnsupported_iff i).mp h
  have hcommand : refCommandOf i = .op b := by simp [refCommandOf, scriptOf_eq_some.mpr henc]
  obtain ⟨hgt, hpush, hdup, hhash, hverify, hchecksig⟩ := hb.ranges
  have hzero : b ≠ 0x00 := by rintro rfl; exact absurd hgt (by decide)
  simp only [hcommand, refExec, if_neg hzero, if_neg hpush, if_neg hdup, if_neg hhash, if_neg hverify,
    if_neg hchecksig]

theorem execOpDup_eq_afterCommand (hv : s.vm = some v) (z : Nat) :
    exec .opDup s = .next (afterCommand s v (refExec z (refVmOf v) (.op 0x76))) := by
  refine (withVm_of_some _ hv).trans ?_
  obtain ⟨prog, ip, stack, chkfail, tx⟩ := v
  cases stack with
  | nil => rfl
  | cons x rest => exact vmPush_eq_afterCommand ⟨prog, ip, x :: rest, chkfail, tx⟩ ⟨x :: rest, chkfail⟩ x

theorem execOpHash160_eq_afterCommand (hv : s.vm = some v) (z : Nat) :
    exec .opHash160 s = .next (afterCommand s v (refExec z (refVmOf v) (.op 0xA9))) := by
  refine (withVm_of_some _ hv).trans ?_
  obtain ⟨prog, ip, stack, chkfail, tx⟩ := v
  cases stack with
  | nil => rfl
  | cons x rest => exact vmPush_eq_afterCommand ⟨prog, ip, x :: rest, chkfail, tx⟩ ⟨rest, chkfail⟩ (hash160 x)

/-- OP_EQUALVERIFY pops two elements and goes on if they are equal (R274). -/
theorem refExec_equalVerify (z : Nat) (a b : Bytes) (rest : List Bytes) (chkfail : Bool) :
    refExec z { stack := a :: b :: rest, chkfail := chkfail } (.op 0x88) =
      if a = b then .ok { stack := rest, chkfail := chkfail } else .error .equalVerify := rfl

theorem execOpEqualVerify_eq_afterCommand (hv : s.vm = some v) (z : Nat) :
    exec .opEqualVerify s = .next (afterCommand s v (refExec z (refVmOf v) (.op 0x88))) := by
  refine (withVm_of_some _ hv).trans ?_
  obtain ⟨prog, ip, stack, chkfail, tx⟩ := v
  match stack with
  | [] => rfl
  | [_] => rfl
  | a :: b :: rest =>
    dsimp only [refVmOf]
    rw [refExec_equalVerify]
    split
    next => rfl
    next => rfl

/-- OP_CHECKSIG pushes the verdict on inputs that pass its checks, and a false one sets CHKFAIL (R275). -/
theorem refCheckSig_of_two (z : Nat) (pub sig : Bytes) (rest : List Bytes) (chkfail : Bool) :
    refCheckSig z { stack := pub :: sig :: rest, chkfail := chkfail } =
      match checkSigInputs sig pub with
      | .error reason => .error reason
      | .ok (q, r, sv) =>
        refPush { stack := rest, chkfail := chkfail || !verify q z r sv } [if verify q z r sv then 0x01 else 0x00] := by
  have htype : (sig = [] ∨ sig.getLast? ≠ some 0x01) ↔ sig.getLast? ≠ some 0x01 :=
    or_iff_right_of_imp fun h => by simp [h]
  simp only [refCheckSig, checkSigInputs, List.dropLast_eq_take, htype]
  split
  next => rfl
  next =>
    cases secDecode pub with
    | none => rfl
    | some q =>
      cases derDecode (sig.take (sig.length - 1)) with
      | none => rfl
      | some rs => cases hverify : verify q z rs.1 rs.2 <;> simp [hverify]

theorem execOpCheckSig_eq_afterCommand (hv : s.vm = some v) :
    exec .opCheckSig s = .next (afterCommand s v (refExec (vmDigest s v) (refVmOf v) (.op 0xAC))) := by
  refine (withVm_of_some _ hv).trans ?_
  change _ = Host.Outcome.next (afterCommand s v (refCheckSig (vmDigest s v) (refVmOf v)))
  obtain ⟨prog, ip, stack, chkfail, tx⟩ := v
  match stack with
  | [] => rfl
  | [_] => rfl
  | pub :: sig :: rest =>
    simp only [refVmOf, refCheckSig_of_two]
    cases checkSigInputs sig pub with
    | error reason => rfl
    | ok inputs =>
      obtain ⟨q, r, sv⟩ := inputs
      exact vmPush_eq_afterCommand ⟨prog, ip, pub :: sig :: rest, chkfail, tx⟩
        ⟨rest, chkfail || !verify q (vmDigest s ⟨prog, ip, pub :: sig :: rest, chkfail, tx⟩) r sv⟩ _

/-- Every script command of a program does to the evaluation what EVAL's rule for it says (R269 to R276). -/
theorem exec_eq_afterCommand {i : Instr} (hwf : i.wf = true) (hscript : (scriptOf i).isSome = true)
    (hv : s.vm = some v) :
    exec i s = .next (afterCommand s v (refExec (vmDigest s v) (refVmOf v) (refCommandOf i))) := by
  rcases exec_script_shape hscript s with ⟨x, hx, hexec⟩ | ⟨hu, hexec⟩ | rfl | rfl | rfl | rfl
  · rw [hexec, pushData_eq_afterCommand hv, refExec_of_pushedBytes hwf hx]
  · rw [hexec, refExec_of_isUnsupported hu]
    exact withVm_of_some _ hv
  · exact execOpDup_eq_afterCommand hv _
  · exact execOpHash160_eq_afterCommand hv _
  · exact execOpEqualVerify_eq_afterCommand hv _
  · exact execOpCheckSig_eq_afterCommand hv

end Commands

/-! ## The script commands (R264, R269 to R276) -/

/-- Settles O55, each command by its row of R110's map. -/
theorem pushCommands : Obligations.PushCommands := by
  refine ⟨fun i x hwf h => pushedBytes_encoding hwf h, fun i x s v hx hv => ?_⟩
  rw [exec_of_pushedBytes s hx, pushData_eq_afterCommand hv]
  exact ⟨_, rfl, push_outcome (refVmOf v) x⟩

/-- Settles O56, by the rows of R110's map and the one meaning the unsupported opcodes share. -/
theorem unsupportedOpcodes : Obligations.UnsupportedOpcodes := by
  refine ⟨isUnsupported_iff, fun i s v hu hv => ?_⟩
  rw [exec_of_isUnsupported s hu]
  exact ⟨_, withVm_of_some _ hv, scriptEnded_finishScript s .badOpcode⟩

/-- A push of a short element on a stack with room goes through. -/
theorem push_goes_through {s : State} {v : Vm} {w : RefVm} {x : Bytes} (hx : x.length ≤ 520)
    (hroom : w.stack.length < 1000) :
    ScriptWentOn s (afterCommand s v (refPush w x)) v (x :: w.stack) w.chkfail := by
  have h := push_outcome (s := s) (v := v) w x
  rwa [if_neg (Nat.not_lt.mpr hx), if_neg hroom.ne] at h

/-- Settles O57: only OP_DUP can meet a limit, for a digest has 20 bytes and takes the place of what it digests. -/
theorem stackOpcodes : Obligations.StackOpcodes := by
  rintro s ⟨prog, ip, stack, chkfail, tx⟩ hv hsize helem
  refine ⟨⟨_, execOpDup_eq_afterCommand hv 0, ?_⟩, ⟨_, execOpHash160_eq_afterCommand hv 0, ?_⟩,
    ⟨_, execOpEqualVerify_eq_afterCommand hv 0, ?_⟩⟩
  · cases stack with
    | nil => exact scriptEnded_afterCommand _
    | cons x rest =>
      have h := push_outcome (s := s) (v := ⟨prog, ip, x :: rest, chkfail, tx⟩) ⟨x :: rest, chkfail⟩ x
      rwa [if_neg (Nat.not_lt.mpr (helem x List.mem_cons_self))] at h
  · cases stack with
    | nil => exact scriptEnded_afterCommand _
    | cons x rest => exact push_goes_through (w := ⟨rest, chkfail⟩) (by simp) hsize
  · match stack with
    | [] => exact scriptEnded_afterCommand _
    | [_] => exact scriptEnded_afterCommand _
    | a :: b :: rest =>
      dsimp only [refVmOf]
      rw [refExec_equalVerify]
      split
      next => exact scriptWentOn_afterCommand ⟨rest, chkfail⟩
      next => exact scriptEnded_afterCommand _

/-- A signature's type byte is its last one, so the empty signature has none (R275). -/
theorem bad_sighashType_iff (sig : Bytes) :
    (sig.length = 0 ∨ sig.getD (sig.length - 1) 0 ≠ 0x01) ↔ (sig = [] ∨ sig.getLast? ≠ some 0x01) := by
  cases sig with
  | nil => simp
  | cons c sig => simp [List.getLast?_eq_getElem?, List.getD_eq_getElem?_getD]

/-- Settles O58 from the rule's own text (`refCheckSig`): two elements are popped, so the one pushed finds room. -/
theorem checkSigOpcode : Obligations.CheckSigOpcode := by
  rintro s ⟨prog, ip, stack, chkfail, tx⟩ hv hsize
  refine ⟨_, execOpCheckSig_eq_afterCommand hv, ?_⟩
  match stack with
  | [] => exact scriptEnded_afterCommand _
  | [_] => exact scriptEnded_afterCommand _
  | pub :: sig :: rest =>
    have hroom : rest.length < 1000 := Nat.lt_of_succ_lt hsize
    have hexec : refExec (vmDigest s ⟨prog, ip, pub :: sig :: rest, chkfail, tx⟩) ⟨pub :: sig :: rest, chkfail⟩
          (.op 0xAC) =
        refCheckSig (sighashZ tx s.inidx.toNat (spkBytes s)) ⟨pub :: sig :: rest, chkfail⟩ := rfl
    dsimp only [refVmOf]
    rw [hexec, refCheckSig]
    simp only [bad_sighashType_iff]
    split
    next => exact scriptEnded_afterCommand _
    next =>
      cases secDecode pub with
      | none => exact scriptEnded_afterCommand _
      | some q =>
        cases derDecode (sig.take (sig.length - 1)) with
        | none => exact scriptEnded_afterCommand _
        | some rs =>
          dsimp only
          split
          next => exact push_goes_through (w := ⟨rest, chkfail⟩) (x := [0x01]) (by decide) hroom
          next => exact push_goes_through (w := ⟨rest, true⟩) (x := [0x00]) (by decide) hroom

/-! ## The verdict (R282, R283) -/

theorem truthy_iff (x : Bytes) : truthy x = true ↔ 1 ≤ x.length ∧ ∃ b ∈ x, b ≠ 0x00 := by
  simp only [truthy, List.any_eq_true, bne_iff_ne]
  exact ⟨fun ⟨b, hb, hne⟩ => ⟨List.length_pos_of_mem hb, b, hb, hne⟩, And.right⟩

theorem verdict_eq_refRun (v : Vm) (z : Nat) : verdict v = refRun z (refVmOf v) [] := by
  obtain ⟨prog, ip, stack, chkfail, tx⟩ := v
  cases stack with
  | nil => rfl
  | cons top rest =>
    simp only [verdict, refVmOf, refRun, ← truthy_iff]
    cases truthy top <;> rfl

/-- The step after the last command completes SCRIPT with the verdict. -/
theorem step_verdict {s : State} {v : Vm} (hbusy : s.status.busy = true) (hquiet : Quiet s) (hv : s.vm = some v)
    (hend : v.prog[v.ip]? = none) : ∃ t, step s = .next t ∧ ScriptEnded s t (verdict v) := by
  obtain ⟨-, -, hverdict, -, -⟩ := stepRunsFetchedInstruction
  exact hverdict s v hbusy hquiet hv hend

/-- Settles O59, by cases of the stack, the truth of its top and CHKFAIL. -/
theorem scriptVerdict : Obligations.ScriptVerdict := by
  rintro s ⟨prog, ip, stack, chkfail, tx⟩ hbusy hquiet hv hip
  obtain rfl : ip = prog.length := hip
  obtain ⟨t, hstep, hended⟩ := step_verdict hbusy hquiet hv (List.getElem?_eq_none le_rfl)
  refine ⟨t, hstep, ?_⟩
  cases stack with
  | nil => exact hended
  | cons top rest =>
    simp only [← truthy_iff]
    cases htop : truthy top
    case false => simpa [verdict, htop] using hended
    case true => cases chkfail <;> simpa [verdict, htop] using hended

/-! ## SCRIPT_PARSE against the spec's (R261) -/

theorem refLength_of_opcode {b : Byte} (h : b.toNat = 0 ∨ 0x4E < b.toNat) (rest : Bytes) : refLength b rest = none := by
  unfold refLength
  rw [if_neg (by omega), if_neg (by omega), if_neg (by omega), if_neg (by omega)]

theorem refLength_of_push {b : Byte} (h : 0x01 ≤ b.toNat ∧ b.toNat ≤ 0x4B) (rest : Bytes) :
    refLength b rest = some (some (b.toNat, rest)) := if_pos h

theorem PushDataRow.refLength {b : Byte} {n : Nat} {mk : Bytes → Instr} (h : PushDataRow b n mk) (rest : Bytes) :
    refLength b rest = some (if rest.length < n then none else some (intLe (rest.take n), rest.drop n)) := by
  rcases h.field with ⟨rfl, rfl⟩ | ⟨rfl, rfl⟩ | ⟨rfl, rfl⟩
  all_goals rfl

theorem splitBytes_toOption (k : Nat) (bs : Bytes) (e : DecodeError) :
    (splitBytes k bs e).toOption = if bs.length < k then none else some (bs.take k, bs.drop k) := by
  unfold splitBytes
  split
  next h => rw [if_neg (Nat.not_lt.mpr h)]; rfl
  next h => rw [if_pos (Nat.not_le.mp h)]; rfl

theorem toOption_bind {α β : Type} (x : Except DecodeError α) (k : α → Except DecodeError β) :
    (x >>= k).toOption = x.toOption.bind fun a => (k a).toOption := by cases x <;> rfl

theorem decodeRow_push_toOption (n : Nat) (mk : Bytes → Instr) (bs : Bytes) :
    (decodeRow (.push n mk) bs).toOption = if bs.length < n then none else some (mk (bs.take n), bs.drop n) := by
  rw [decodeRow, toOption_bind, splitBytes_toOption]
  split <;> rfl

/-- OP_PUSHDATA is the push of as many bytes as its length field says. -/
theorem decodeRow_pushData_eq_bind (n : Nat) (mk : Bytes → Instr) (bs : Bytes) :
    decodeRow (.pushData n mk) bs =
      splitBytes n bs .truncatedLength >>= fun l => decodeRow (.push (intLe l.1) mk) l.2 := rfl

theorem decodeRow_pushData_toOption (n : Nat) (mk : Bytes → Instr) (bs : Bytes) :
    (decodeRow (.pushData n mk) bs).toOption =
      if bs.length < n then none
      else (decodeRow (.push (intLe (bs.take n)) mk) (bs.drop n)).toOption := by
  rw [decodeRow_pushData_eq_bind, toOption_bind, splitBytes_toOption]
  split <;> rfl

/-- One turn of the spec's loop reads what the decoder reads. -/
theorem refParseFuel_cons (fuel : Nat) (b : Byte) (bs : Bytes) :
    refParseFuel (fuel + 1) (b :: bs) =
      (decodeScript (b :: bs)).toOption.bind fun c => (refParseFuel fuel c.2).map (refCommandOf c.1 :: ·) := by
  have hmatch := scriptRow_matches b
  rw [decodeScript_cons, refParseFuel]
  cases hrow : scriptRow b with
  | op i =>
    rw [hrow] at hmatch
    rw [refLength_of_opcode hmatch.no_length, decodeRow_op]
    simp [Except.toOption, hmatch.refCommandOf]
  | push n mk =>
    rw [hrow] at hmatch
    rw [refLength_of_push hmatch.range, ← hmatch.length, decodeRow_push_toOption]
    by_cases hlt : bs.length < n
    · simp [hlt]
    · simp [hlt, hmatch.refCommandOf (List.length_take_of_le (Nat.not_lt.mp hlt))]
  | pushData n mk =>
    rw [hrow] at hmatch
    rw [hmatch.refLength, decodeRow_pushData_toOption]
    by_cases hfield : bs.length < n
    · simp [hfield]
    · simp only [hfield, if_false, decodeRow_push_toOption]
      by_cases hlt : (bs.drop n).length < intLe (bs.take n)
      · simp only [hlt, if_true, Option.bind_none]
      · simp only [hlt, if_false, Option.bind_some, hmatch.refCommandOf]

theorem refParseFuel_eq (fuel : Nat) (body : Bytes) :
    refParseFuel fuel body = (parseScriptFuel fuel body).toOption.map (List.map refCommandOf) := by
  induction fuel generalizing body with
  | zero => cases body <;> rfl
  | succ fuel ih =>
    cases body with
    | nil => rfl
    | cons b bs =>
      rw [refParseFuel_cons, parseScriptFuel, toOption_bind, Option.map_bind]
      congr
      funext c
      simp only [ih, toOption_bind, Function.comp]
      cases parseScriptFuel fuel c.2 <;> rfl

/-- The machine's parse and the spec's succeed on the same bodies, with the same commands. -/
theorem refParse_eq (body : Bytes) : refParse body = (parseScript body).toOption.map (List.map refCommandOf) :=
  refParseFuel_eq body.length body

theorem refParse_of_ok {body : Bytes} {prog : List Instr} (h : parseScript body = .ok prog) :
    refParse body = some (prog.map refCommandOf) := by rw [refParse_eq, h]; rfl

theorem refParse_of_error {body : Bytes} {e : DecodeError} (h : parseScript body = .error e) :
    refParse body = none := by rw [refParse_eq, h]; rfl

/-! ## The start of SCRIPT (R262, R263, R287) -/

theorem checkedTx_of_input {s : State} {tx : Tx} {x : TxIn} (k : Tx → TxIn → Result)
    (htxlen : s.txlen.toNat ≤ txBufSize) (hspklen : s.spklen.toNat ≤ spkBufSize)
    (htx : parseTx (txBytes s) = some tx) (hx : tx.ins[s.inidx.toNat]? = some x) : checkedTx s k = k tx x := by
  simp only [checkedTx, if_neg (Nat.not_lt.mpr htxlen), if_neg (Nat.not_lt.mpr hspklen), htx, hx]

/-- SCRIPT's own step: a body that does not parse completes it, script_sig first, and else the evaluation is there with
the commands of the two bodies. -/
theorem startScript_outcome (s : State) (tx : Tx) (sig : Bytes) :
    ∃ u, startScript s tx sig = .next u ∧
      ((refParse sig = none ∧ ScriptEnded s u .sigParse) ∨
        (∃ a, refParse sig = some a ∧ refParse (spkBytes s) = none ∧ ScriptEnded s u .pubkeyScriptParse) ∨
        ∃ a b, CommandsOf sig a ∧ CommandsOf (spkBytes s) b ∧ refParse sig = some (a.map refCommandOf) ∧
          refParse (spkBytes s) = some (b.map refCommandOf) ∧ u = { s with vm := some (vmStart (a ++ b) tx) }) := by
  unfold startScript
  cases hsig : parseScript sig with
  | error e => exact ⟨_, rfl, .inl ⟨refParse_of_error hsig, scriptEnded_finishScript s _⟩⟩
  | ok a =>
    cases hpub : parseScript (spkBytes s) with
    | error e =>
      exact ⟨_, rfl, .inr (.inl ⟨_, refParse_of_ok hsig, refParse_of_error hpub, scriptEnded_finishScript s _⟩)⟩
    | ok b =>
      exact ⟨_, rfl, .inr (.inr ⟨a, b, (scriptBodyIsItsCommands sig a).mp hsig,
        (scriptBodyIsItsCommands (spkBytes s) b).mp hpub, refParse_of_ok hsig, refParse_of_ok hpub, rfl⟩)⟩

/-- Settles O53, by the three outcomes of the two parses. -/
theorem scriptStarts : Obligations.ScriptStarts := by
  intro s tx x htxlen hspklen htx hx
  obtain ⟨u, hstart, houtcome⟩ := startScript_outcome s tx x.scriptSig
  refine ⟨u, (checkedTx_of_input _ htxlen hspklen htx hx).trans hstart, ?_⟩
  rcases houtcome with ⟨hsig, hended⟩ | ⟨a, hsig, hpub, hended⟩ | ⟨a, b, ha, hb, hsig, hpub, rfl⟩
  · simpa only [hsig] using hended
  · simpa only [hsig, hpub] using hended
  · simp only [hsig, hpub]
    exact ⟨a, b, ha, hb, rfl⟩

/-! ## The run of an evaluation (R280) -/

/-- With no host event to come, a SCRIPT is being evaluated and `rest` are the commands still to run. -/
structure Evaluating (s : State) (v : Vm) (rest : List Instr) : Prop where
  busy : s.status.busy = true
  bus : s.bus = []
  vm : s.vm = some v
  program : v.prog.drop v.ip = rest
  commands : ∀ i ∈ rest, i.wf = true ∧ (scriptOf i).isSome = true

section Evaluation
variable {s : State} {v : Vm} {i : Instr} {rest : List Instr}

/-- A step runs the next command by EVAL's rule for it. -/
theorem Evaluating.step_command (h : Evaluating s v (i :: rest)) :
    step s = .next (afterCommand s v (refExec (vmDigest s v) (refVmOf v) (refCommandOf i))) := by
  have hnext : v.prog[v.ip]? = some i := by rw [← List.head?_drop, h.program, List.head?_cons]
  obtain ⟨hwf, hscript⟩ := h.commands i List.mem_cons_self
  rw [step_of_fetch_run h.busy (quiet_of_no_events h.bus) (fetch_script h.vm hnext),
    exec_eq_afterCommand hwf hscript h.vm]

theorem Evaluating.step_end (h : Evaluating s v []) : ∃ t, step s = .next t ∧ ScriptEnded s t (verdict v) := by
  refine step_verdict h.busy (quiet_of_no_events h.bus) h.vm ?_
  rw [← List.head?_drop, h.program, List.head?_nil]

/-- A command that goes on leaves the commands after it to run. -/
theorem Evaluating.next (h : Evaluating s v (i :: rest)) (w : RefVm) :
    Evaluating (afterCommand s v (.ok w)) { v with ip := v.ip + 1, stack := w.stack, chkfail := w.chkfail } rest where
  busy := h.busy
  bus := h.bus
  vm := rfl
  program := by rw [← List.drop_drop, h.program, List.drop_one, List.tail_cons]
  commands := fun j hj => h.commands j (List.mem_cons_of_mem i hj)

/-- One step a command and one for the verdict bring the evaluation to EVAL's reason. The completion clears the VM and
writes nothing else that a command before it changed. -/
theorem Evaluating.run_to_end (h : Evaluating s v rest) :
    ∃ k t, k ≤ rest.length + 1 ∧ run k s = .next t ∧
      ScriptEnded s t (refRun (vmDigest s v) (refVmOf v) (rest.map refCommandOf)) := by
  induction rest generalizing s v with
  | nil =>
    obtain ⟨t, hstep, hended⟩ := h.step_end
    rw [verdict_eq_refRun v (vmDigest s v)] at hended
    exact ⟨1, t, le_rfl, run_succ_of_step 0 hstep, hended⟩
  | cons i rest ih =>
    have hstep := h.step_command
    rw [List.map_cons, refRun]
    cases hexec : refExec (vmDigest s v) (refVmOf v) (refCommandOf i) with
    | error reason =>
      rw [hexec] at hstep
      exact ⟨1, _, Nat.le_add_left 1 _, run_succ_of_step 0 hstep, scriptEnded_afterCommand reason⟩
    | ok w =>
      rw [hexec] at hstep
      obtain ⟨k, t, hk, hrun, hended⟩ := ih (h.next w)
      exact ⟨k + 1, t, Nat.succ_le_succ hk, (run_succ_of_step k hstep).trans hrun, hended⟩

end Evaluation

/-- Settles O60: a parse failure has already completed SCRIPT, and else the program, of at most a command a byte, runs
to its end. -/
theorem scriptCompletes : Obligations.ScriptCompletes := by
  intro s tx x hbusy hbus htxlen hspklen htx hx
  obtain ⟨u, hstart, houtcome⟩ := startScript_outcome s tx x.scriptSig
  refine ⟨u, (checkedTx_of_input _ htxlen hspklen htx hx).trans hstart, ?_⟩
  rcases houtcome with ⟨hsig, hended⟩ | ⟨a, hsig, hpub, hended⟩ | ⟨a, b, ha, hb, hsig, hpub, rfl⟩
  · exact ⟨0, u, Nat.zero_le _, rfl, by rwa [refEval, hsig]⟩
  · refine ⟨0, u, Nat.zero_le _, rfl, ?_⟩
    simpa only [refEval, hsig, hpub] using hended
  · have heval : Evaluating { s with vm := some (vmStart (a ++ b) tx) } (vmStart (a ++ b) tx) (a ++ b) :=
      ⟨hbusy, hbus, rfl, rfl, List.forall_mem_append.mpr ⟨ha.1, hb.1⟩⟩
    obtain ⟨k, t, hk, hrun, hended⟩ := heval.run_to_end
    have hlength : (spkBytes s).length = s.spklen.toNat := memBytes_length _ _ _
    have hsize := Nat.add_le_add ha.length_le hb.length_le
    rw [hlength, ← List.length_append] at hsize
    refine ⟨k, t, hk.trans (Nat.succ_le_succ hsize), hrun, ?_⟩
    rw [List.map_append] at hended
    simp only [refEval, hsig, hpub]
    exact hended

/-- Settles O54: the step that starts SCRIPT, and then the run of O60. -/
theorem scriptRefinesEval : Obligations.ScriptRefinesEval := by
  intro s tx x hbusy hbus hvm hdecode htxlen hspklen htx hx
  obtain ⟨u, hexec, k, t, hk, hrun, hended⟩ := scriptCompletes s tx x hbusy hbus htxlen hspklen htx hx
  have hstep : step s = .next u :=
    (step_of_fetch_run hbusy (quiet_of_no_events hbus) (fetch_command hvm hdecode)).trans hexec
  exact ⟨k + 1, t, Nat.succ_le_succ hk, (run_succ_of_step k hstep).trans hrun, hended⟩

end Sys2Proof.Machine

/-! # The transaction unit (45_tx_sighash.md R300 to R309) -/

namespace Sys2Proof.Machine

/-! ## Field codecs (R300, R301, R305) -/

/-- `take(k)` splits off exactly k bytes. -/
theorem takeBytes_eq_some {k : Nat} {bs p rest : Bytes} :
    takeBytes k bs = some (p, rest) ↔ p.length = k ∧ bs = p ++ rest := by
  simp only [takeBytes, Option.ite_none_right_eq_some, Option.some.injEq, Prod.mk.injEq]
  constructor
  · rintro ⟨hk, rfl, rfl⟩
    exact ⟨List.length_take_of_le hk, (List.take_append_drop k bs).symm⟩
  · rintro ⟨rfl, rfl⟩
    simp

theorem varintPayload_eq_some {k least v : Nat} {bs rest : Bytes} :
    varintPayload k least bs = some (v, rest) ↔ least ≤ v ∧ v < 256 ^ k ∧ bs = leBytes k v ++ rest := by
  simp only [varintPayload, Option.bind_eq_bind, Option.bind_eq_some_iff, Option.ite_none_left_eq_some,
    Option.some.injEq, Prod.mk.injEq, Nat.not_lt]
  constructor
  · rintro ⟨⟨p, _⟩, htake, hleast, rfl, rfl⟩
    obtain ⟨rfl, rfl⟩ := takeBytes_eq_some.mp htake
    exact ⟨hleast, intLe_lt p, by rw [leBytes_intLe]⟩
  · rintro ⟨hleast, hlt, rfl⟩
    have hvalue : intLe (leBytes k v) = v := by rw [intLe_leBytes, Nat.mod_eq_of_lt hlt]
    exact ⟨(leBytes k v, rest), takeBytes_eq_some.mpr ⟨leBytes_length k v, rfl⟩, hvalue.symm ▸ hleast, hvalue, rfl⟩

/-- A varint is read exactly from its minimal encoding: the first byte tells the form, and the least value of each form
is the bound where the form before it ends. -/
theorem readVarint_eq_some {bs rest : Bytes} {v : Nat} :
    readVarint bs = some (v, rest) ↔ v < 2 ^ 64 ∧ bs = varint v ++ rest := by
  constructor
  · intro h
    cases bs with
    | nil => cases h
    | cons b bs =>
      have hb := b.isLt
      simp only [readVarint] at h
      split_ifs at h with hone htwo hfour
      · cases h
        exact ⟨by omega, by simp [varint, if_pos hone]⟩
      · obtain rfl : b = 0xFD := BitVec.eq_of_toNat_eq htwo
        obtain ⟨hle, hlt, rfl⟩ := varintPayload_eq_some.mp h
        exact ⟨by omega, by rw [varint, if_neg (by omega), if_pos (by omega), List.cons_append]⟩
      · obtain rfl : b = 0xFE := BitVec.eq_of_toNat_eq hfour
        obtain ⟨hle, hlt, rfl⟩ := varintPayload_eq_some.mp h
        exact ⟨by omega,
          by rw [varint, if_neg (by omega), if_neg (by omega), if_pos (by omega), List.cons_append]⟩
      · obtain rfl : b = 0xFF := BitVec.eq_of_toNat_eq (show b.toNat = 0xFF by omega)
        obtain ⟨hle, hlt, rfl⟩ := varintPayload_eq_some.mp h
        exact ⟨by omega,
          by rw [varint, if_neg (by omega), if_neg (by omega), if_neg (by omega), List.cons_append]⟩
  · rintro ⟨hv, rfl⟩
    unfold varint
    split_ifs with hone htwo hfour
    · have hbyte : (BitVec.ofNat 8 v).toNat = v := by rw [BitVec.toNat_ofNat]; omega
      simp only [List.singleton_append, readVarint, hbyte, if_pos hone]
    · exact varintPayload_eq_some.mpr ⟨by omega, by omega, rfl⟩
    · exact varintPayload_eq_some.mpr ⟨by omega, by omega, rfl⟩
    · exact varintPayload_eq_some.mpr ⟨by omega, by omega, rfl⟩

/-- Settles O48: `readVarint_eq_some`, one direction each. -/
theorem varintRoundTrip : Obligations.VarintRoundTrip :=
  ⟨fun _ _ hv => readVarint_eq_some.mpr ⟨hv, rfl⟩, fun _ _ _ h => readVarint_eq_some.mp h⟩

/-! ## What a parser read serializes to the bytes it took (R302 to R304, R309) -/

/-- Whatever `read` accepts begins with the serialization of what it gives, and the rest is left. -/
def ReadsBack {α : Type} (read : Bytes → Option (α × Bytes)) (ser : α → Bytes) : Prop :=
  ∀ {bs rest : Bytes} {x : α}, read bs = some (x, rest) → bs = ser x ++ rest

/-- A list's items after their count. -/
def serCounted {α : Type} (ser : α → Bytes) (xs : List α) : Bytes := varint xs.length ++ xs.flatMap ser

theorem serWitness_eq_serCounted : serWitness = serCounted serVarBytes := rfl

theorem readVarBytes_readsBack : ReadsBack readVarBytes serVarBytes := by
  intro bs rest x h
  simp only [readVarBytes, Option.bind_eq_bind, Option.bind_eq_some_iff, Prod.exists] at h
  obtain ⟨n, _, hn, htake⟩ := h
  obtain ⟨rfl, rfl⟩ := takeBytes_eq_some.mp htake
  obtain ⟨-, rfl⟩ := readVarint_eq_some.mp hn
  rw [serVarBytes, List.append_assoc]

/-- An input with the script it was parsed with. -/
def serOwnTxIn (x : TxIn) : Bytes := serTxIn x x.scriptSig

theorem readTxIn_readsBack : ReadsBack readTxIn serOwnTxIn := by
  intro bs rest x h
  simp only [readTxIn, Option.bind_eq_bind, Option.bind_eq_some_iff, Prod.exists, Option.pure_def, Option.some.injEq,
    Prod.mk.injEq] at h
  obtain ⟨prevTx, _, hprevTx, prevIndex, _, hprevIndex, scriptSig, _, hscriptSig, sequence, _, hsequence, rfl, rfl⟩ := h
  rw [(takeBytes_eq_some.mp hprevTx).2, (takeBytes_eq_some.mp hprevIndex).2, readVarBytes_readsBack hscriptSig,
    (takeBytes_eq_some.mp hsequence).2]
  simp only [serOwnTxIn, serTxIn, List.append_assoc]

theorem readTxOut_readsBack : ReadsBack readTxOut serTxOut := by
  intro bs rest x h
  simp only [readTxOut, Option.bind_eq_bind, Option.bind_eq_some_iff, Prod.exists, Option.pure_def, Option.some.injEq,
    Prod.mk.injEq] at h
  obtain ⟨amount, _, hamount, scriptPubkey, _, hscriptPubkey, rfl, rfl⟩ := h
  rw [(takeBytes_eq_some.mp hamount).2, readVarBytes_readsBack hscriptPubkey]
  simp only [serTxOut, List.append_assoc]

section Lists
variable {α : Type} {read : Bytes → Option (α × Bytes)} {ser : α → Bytes}

theorem readMany_length {n : Nat} {bs rest : Bytes} {xs : List α} (h : readMany read n bs = some (xs, rest)) :
    xs.length = n := by
  induction n generalizing bs xs with
  | zero => cases h; rfl
  | succ n ih =>
    simp only [readMany, Option.bind_eq_bind, Option.bind_eq_some_iff, Prod.exists, Option.pure_def,
      Option.some.injEq, Prod.mk.injEq] at h
    obtain ⟨x, _, -, xs, _, hxs, rfl, rfl⟩ := h
    rw [List.length_cons, ih hxs]

theorem readMany_readsBack (hread : ReadsBack read ser) (n : Nat) :
    ReadsBack (readMany read n) (List.flatMap ser) := by
  induction n with
  | zero => intro bs rest xs h; cases h; rfl
  | succ n ih =>
    intro bs rest xs h
    simp only [readMany, Option.bind_eq_bind, Option.bind_eq_some_iff, Prod.exists, Option.pure_def,
      Option.some.injEq, Prod.mk.injEq] at h
    obtain ⟨x, _, hx, xs, _, hxs, rfl, rfl⟩ := h
    rw [hread hx, ih hxs, List.flatMap_cons, List.append_assoc]

theorem readCounted_readsBack (hread : ReadsBack read ser) : ReadsBack (readCounted read) (serCounted ser) := by
  intro bs rest xs h
  simp only [readCounted, Option.bind_eq_bind, Option.bind_eq_some_iff, Prod.exists] at h
  obtain ⟨n, _, hn, hxs⟩ := h
  obtain rfl := readMany_length hxs
  rw [(readVarint_eq_some.mp hn).2, readMany_readsBack hread _ hxs, serCounted, List.append_assoc]

end Lists

theorem readWitness_readsBack : ReadsBack readWitness serWitness :=
  serWitness_eq_serCounted ▸ readCounted_readsBack readVarBytes_readsBack

/-! ## TXPARSE (R305) -/

/-- The marker and flag bytes of a SegWit transaction, and no byte without (R309). -/
def segwitBytes (segwit : Bool) : Bytes := if segwit then [0x00, 0x01] else []

/-- Where the peek test holds, the two bytes after the version are the marker and the flag. -/
theorem eq_of_segwitMark {version marker rest : Bytes} (hversion : version.length = 4) (hmarker : marker.length = 2)
    (h : segwitMark (version ++ (marker ++ rest)) = true) : marker = [0x00, 0x01] := by
  obtain ⟨a, b, rfl⟩ := List.length_eq_two.mp hmarker
  simp only [segwitMark, Bool.and_eq_true, beq_iff_eq] at h
  obtain ⟨⟨-, ha⟩, hb⟩ := h
  rw [List.getD_append_right _ _ _ _ (by omega), hversion] at ha hb
  obtain rfl : a = 0x00 := ha
  obtain rfl : b = 0x01 := hb
  rfl

theorem marker_eq_segwitBytes {t version marker rest : Bytes} (hversion : version.length = 4)
    (ht : t = version ++ (marker ++ rest)) (hmarker : marker.length = if segwitMark t then 2 else 0) :
    marker = segwitBytes (segwitMark t) := by
  cases hmark : segwitMark t with
  | true => exact eq_of_segwitMark hversion (by simpa [hmark] using hmarker) (ht ▸ hmark)
  | false => exact List.length_eq_zero_iff.mp (by simpa [hmark] using hmarker)

/-- An accepted content is laid out field by field, each list after its count and each script after its length; there
is no witness without SegWit. -/
theorem parseTx_layout {t : Bytes} {tx : Tx} (h : parseTx t = some tx) :
    t = tx.version ++ segwitBytes tx.segwit ++ serCounted serOwnTxIn tx.ins ++ serCounted serTxOut tx.outs ++
        tx.witnesses.flatMap serWitness ++ tx.locktime ∧
      (tx.segwit = false → tx.witnesses = []) := by
  simp only [parseTx, Option.bind_eq_bind, Option.bind_eq_some_iff, Prod.exists, Option.pure_def,
    Option.ite_none_right_eq_some, Option.some.injEq, List.isEmpty_iff] at h
  obtain ⟨version, _, hversion, marker, _, hmarker, ins, _, hins, outs, _, houts, witnesses, _, hwitnesses,
    locktime, _, hlocktime, rfl, rfl⟩ := h
  obtain ⟨hversionLength, hsplit⟩ := takeBytes_eq_some.mp hversion
  obtain ⟨hmarkerLength, rfl⟩ := takeBytes_eq_some.mp hmarker
  obtain rfl := marker_eq_segwitBytes hversionLength hsplit hmarkerLength
  constructor
  · refine hsplit.trans ?_
    rw [readCounted_readsBack readTxIn_readsBack hins, readCounted_readsBack readTxOut_readsBack houts,
      readMany_readsBack readWitness_readsBack _ hwitnesses, (takeBytes_eq_some.mp hlocktime).2]
    simp only [List.append_assoc, List.append_nil]
  · intro hsegwit
    rw [if_neg (Bool.not_eq_true _ ▸ hsegwit)] at hwitnesses
    exact List.length_eq_zero_iff.mp (readMany_length hwitnesses)

/-! ## The serializations (R306, R309) -/

theorem serTxIns_eq_flatMap {sub : Nat → Bytes} {j : Nat} {xs : List TxIn}
    (h : ∀ (k : Nat) (x : TxIn), xs[k]? = some x → sub (j + k) = x.scriptSig) :
    serTxIns sub j xs = xs.flatMap serOwnTxIn := by
  induction xs generalizing j with
  | nil => rfl
  | cons x xs ih =>
    have hhead : sub j = x.scriptSig := h 0 x rfl
    have htail : serTxIns sub (j + 1) xs = xs.flatMap serOwnTxIn :=
      ih fun k y hy => by rw [Nat.add_assoc, Nat.add_comm 1 k]; exact h (k + 1) y hy
    rw [serTxIns, hhead, htail, List.flatMap_cons, serOwnTxIn]

theorem serBody_ownScript (tx : Tx) :
    serBody tx (ownScript tx) = serCounted serOwnTxIn tx.ins ++ serCounted serTxOut tx.outs := by
  have hins : serTxIns (ownScript tx) 0 tx.ins = tx.ins.flatMap serOwnTxIn :=
    serTxIns_eq_flatMap fun k x hx => by rw [Nat.zero_add, ownScript, hx]; rfl
  simp only [serBody, serCounted, hins, List.append_assoc]

theorem fullSer_of_not_segwit {tx : Tx} (h : tx.segwit = false) : fullSer tx = legacySer tx (ownScript tx) := by
  rw [fullSer, h]; rfl

/-- FULL_SER is the layout of `parseTx_layout`. -/
theorem fullSer_eq_layout {tx : Tx} (h : tx.segwit = false → tx.witnesses = []) :
    fullSer tx = tx.version ++ segwitBytes tx.segwit ++ serCounted serOwnTxIn tx.ins ++ serCounted serTxOut tx.outs ++
      tx.witnesses.flatMap serWitness ++ tx.locktime := by
  cases hsegwit : tx.segwit with
  | true => simp [fullSer, hsegwit, serBody_ownScript, segwitBytes]
  | false => simp [fullSer_of_not_segwit hsegwit, legacySer, serBody_ownScript, segwitBytes, h hsegwit]

/-- Settles O49: an accepted content and FULL_SER of what was parsed have the same layout. -/
theorem serializationRoundTrip : Obligations.SerializationRoundTrip := by
  intro t tx h
  obtain ⟨hlayout, hwitnesses⟩ := parseTx_layout h
  have hfull : fullSer tx = t := (fullSer_eq_layout hwitnesses).trans hlayout.symm
  exact ⟨hfull, fun hsegwit => (fullSer_of_not_segwit hsegwit).symm.trans hfull⟩

/-! ## The digest (R307, R308) -/

/-- LEGACY_SER takes every script from the substitution, so it reads of an input its outline alone. -/
theorem serTxIns_congr {sub : Nat → Bytes} {j : Nat} {xs ys : List TxIn}
    (h : xs.map (fun x => (x.prevTx, x.prevIndex, x.sequence)) = ys.map fun x => (x.prevTx, x.prevIndex, x.sequence)) :
    serTxIns sub j xs = serTxIns sub j ys := by
  induction xs generalizing j ys with
  | nil => rw [List.map_eq_nil_iff.mp h.symm]
  | cons x xs ih =>
    obtain ⟨y, ys, rfl, hy, hys⟩ := List.map_eq_cons_iff.mp h.symm
    simp only [Prod.mk.injEq] at hy
    obtain ⟨hprevTx, hprevIndex, hsequence⟩ := hy
    simp only [serTxIns, serTxIn, hprevTx, hprevIndex, hsequence, ih hys.symm]

theorem legacySer_congr {tx tx' : Tx} (h : SameOutline tx tx') (sub : Nat → Bytes) :
    legacySer tx sub = legacySer tx' sub := by
  obtain ⟨hversion, houts, hlocktime, hins⟩ := h
  have hcount : tx.ins.length = tx'.ins.length := by simpa using congrArg List.length hins
  simp only [legacySer, serBody, hversion, houts, hlocktime, hcount, serTxIns_congr hins]

/-- Settles O51: the preimage reads the transaction through LEGACY_SER alone. -/
theorem sighashIgnoresScriptsAndWitness : Obligations.SighashIgnoresScriptsAndWitness := by
  intro tx tx' i script h
  simp only [sighashZ, sighashPreimage, legacySer_congr h]

theorem digestBytes_length (h : Vector Word 8) : (digestBytes h).length = 32 := by
  simp [digestBytes, List.length_flatMap]

@[simp] theorem sha256_length (m : Bytes) : (sha256 m).length = 32 := digestBytes_length _

/-- A digest fits a B register. -/
theorem sighashZ_lt (tx : Tx) (i : Nat) (script : Bytes) : sighashZ tx i script < 2 ^ 256 := by
  have h := intBe_lt (hash256 (sighashPreimage tx i script))
  rwa [hash256, sha256_length, show 256 ^ 32 = 2 ^ 256 by norm_num] at h

/-- Settles O50: the checks of R332 pass, and what is left writes the digest, whose type bytes are those of 1. -/
theorem sighashCommand : Obligations.SighashCommand := by
  intro s rd tx htxlen hspklen htx hindex
  have hchecks : exec (.sighash rd) s = finish (writeB s rd (sighashZ tx s.inidx.toNat (spkBytes s))) false :=
    checkedTx_of_input _ htxlen hspklen htx (List.getElem?_eq_getElem hindex)
  rw [hchecks]
  exact finish_writeB s rd false (sighashZ_lt tx _ _)

end Sys2Proof.Machine

/-! # Faults are completions (60_exceptions.md R331 to R336) -/

namespace Sys2Proof.Machine

/-! ## What answers a next state (R334, R336)

Every operand form hands its value on or raises a fault, and both are next states. -/

/-- The answer is a next state: no stop, whether the command completed, faulted or runs on. -/
def Answers (r : Result) : Prop := ∃ t, r = .next t

@[simp] theorem answers_next (t : State) : Answers (.next t) := ⟨t, rfl⟩

@[simp] theorem answers_raise (s : State) (c : FaultCode) : Answers (raise s c) := ⟨_, rfl⟩

@[simp] theorem answers_finish (s : State) (r : Bool) : Answers (finish s r) := ⟨_, rfl⟩

@[simp] theorem answers_vmFail (s : State) (r : Reason) : Answers (vmFail s r) := ⟨_, rfl⟩

@[simp] theorem answers_vmNext (s : State) (v : Vm) (stack : List Bytes) : Answers (vmNext s v stack) := ⟨_, rfl⟩

section Forms
variable {s : State}

theorem rangeChecked_answers {m : Nat} {i : Fin 16} {k : Nat → Result} (hk : ∀ a, Answers (k a)) :
    Answers (rangeChecked m s i k) := by
  unfold rangeChecked
  split
  · exact answers_raise s _
  · exact hk _

theorem rangeChecked2_answers {m : Nat} {ra rb : Fin 16} {k : Nat → Nat → Result} (hk : ∀ a b, Answers (k a b)) :
    Answers (rangeChecked2 m s ra rb k) :=
  rangeChecked_answers fun a => rangeChecked_answers (hk a)

theorem invertible_answers {m : Nat} {i : Fin 16} {k : Nat → Result} (hk : ∀ a, Answers (k a)) :
    Answers (invertible m s i k) :=
  rangeChecked_answers fun a => by
    split
    · exact answers_raise s _
    · exact hk a

theorem validPoint_answers {i : Fin 8} {k : Point → Result} (hk : ∀ q, Answers (k q)) :
    Answers (validPoint s i k) := by
  unfold validPoint
  split
  · exact hk _
  · exact answers_raise s _

theorem checkedTx_answers {k : Tx → TxIn → Result} (hk : ∀ tx x, Answers (k tx x)) : Answers (checkedTx s k) := by
  unfold checkedTx
  split
  · exact answers_raise s _
  split
  · exact answers_raise s _
  split
  · exact answers_raise s _
  split
  · exact answers_raise s _
  · exact hk _ _

theorem startScript_answers (tx : Tx) (sig : Bytes) : Answers (startScript s tx sig) :=
  let ⟨u, hstart, _⟩ := startScript_outcome s tx sig
  ⟨u, hstart⟩

theorem vmPush_answers (v : Vm) (stack : List Bytes) (x : Bytes) : Answers (vmPush s v stack x) := by
  unfold vmPush
  split
  · exact answers_vmFail s _
  split
  · exact answers_vmFail s _
  · exact answers_vmNext s v _

end Forms

/-! ## No step stops -/

section Commands
variable (s : State)

theorem fieldOp2_answers (m : Nat) (f : Nat → Nat → Nat) (rd ra rb : Fin 16) : Answers (fieldOp2 m f rd ra rb s) :=
  rangeChecked2_answers fun _ _ => answers_finish _ _

theorem fieldInv_answers (m : Nat) (rd ra : Fin 16) : Answers (fieldInv m rd ra s) :=
  invertible_answers fun _ => answers_finish _ _

theorem fieldPow_answers (m : Nat) (rd ra rb : Fin 16) : Answers (fieldPow m rd ra rb s) :=
  rangeChecked_answers fun _ => answers_finish _ _

theorem fieldEq_answers (m : Nat) (ra rb : Fin 16) : Answers (fieldEq m ra rb s) :=
  rangeChecked2_answers fun _ _ => answers_finish _ _

theorem execFsqrt_answers (rd ra : Fin 16) : Answers (execFsqrt rd ra s) :=
  rangeChecked_answers fun _ => answers_finish _ _

theorem execPmul_answers (pd pa : Fin 8) (rb : Fin 16) : Answers (execPmul pd pa rb s) :=
  validPoint_answers fun _ => answers_finish _ _

theorem execLdk_answers (rd k : Fin 16) : Answers (execLdk rd k s) := by
  unfold execLdk
  split
  · exact answers_raise s _
  · exact answers_finish _ _

theorem execEsign_answers (rd rc ra rb : Fin 16) : Answers (execEsign rd rc ra rb s) := by
  unfold execEsign
  split
  · exact answers_raise s _
  split
  · exact answers_raise s _
  split
  · exact answers_finish _ _
  · exact answers_next _

theorem execEverify_answers (pd : Fin 8) (ra rb rc : Fin 16) : Answers (execEverify pd ra rb rc s) :=
  validPoint_answers fun q => by
    split
    · exact answers_raise s _
    · exact answers_finish _ _

/-- A command of the block answers a next state, whatever the operands hold. -/
theorem exec_command_answers {i : Instr} (hi : (commandOf i).isSome = true) : Answers (exec i s) := by
  cases i
  case nop => exact answers_finish _ _
  case mov => exact answers_finish _ _
  case ldk => exact execLdk_answers s _ _
  case fadd => exact fieldOp2_answers s _ _ _ _ _
  case fsub => exact fieldOp2_answers s _ _ _ _ _
  case fmul => exact fieldOp2_answers s _ _ _ _ _
  case nadd => exact fieldOp2_answers s _ _ _ _ _
  case nsub => exact fieldOp2_answers s _ _ _ _ _
  case nmul => exact fieldOp2_answers s _ _ _ _ _
  case finv => exact fieldInv_answers s _ _ _
  case ninv => exact fieldInv_answers s _ _ _
  case fpow => exact fieldPow_answers s _ _ _ _
  case npow => exact fieldPow_answers s _ _ _ _
  case fsqrt => exact execFsqrt_answers s _ _
  case feq => exact fieldEq_answers s _ _ _
  case neq => exact fieldEq_answers s _ _ _
  case fred => exact answers_finish _ _
  case nred => exact answers_finish _ _
  case padd => exact validPoint_answers fun _ => validPoint_answers fun _ => answers_finish _ _
  case pdbl => exact validPoint_answers fun _ => answers_finish _ _
  case pmul => exact execPmul_answers s _ _ _
  case pldg => exact answers_finish _ _
  case pchk => exact answers_finish _ _
  case pmov => exact answers_finish _ _
  case shainit => exact answers_finish _ _
  case shacomp => exact answers_finish _ _
  case esign => exact execEsign_answers s _ _ _ _
  case everify => exact execEverify_answers s _ _ _ _
  case sighash => exact checkedTx_answers fun _ _ => answers_finish _ _
  case script => exact checkedTx_answers fun tx x => startScript_answers tx x.scriptSig
  all_goals exact Bool.noConfusion hi

end Commands

section Script
variable {s : State} {v : Vm}

/-- In an evaluation a script command answers what its rule says of the VM state. -/
theorem withVm_answers {k : Vm → Result} (hv : s.vm = some v) (hk : Answers (k v)) : Answers (withVm s k) :=
  (withVm_of_some k hv).symm ▸ hk

theorem execOpDup_answers (hv : s.vm = some v) : Answers (execOpDup s) :=
  withVm_answers hv <| by
    split
    · exact answers_vmFail s _
    · exact vmPush_answers _ _ _

theorem execOpHash160_answers (hv : s.vm = some v) : Answers (execOpHash160 s) :=
  withVm_answers hv <| by
    split
    · exact answers_vmFail s _
    · exact vmPush_answers _ _ _

theorem execOpEqualVerify_answers (hv : s.vm = some v) : Answers (execOpEqualVerify s) :=
  withVm_answers hv <| by
    split
    · split
      · exact answers_vmNext s v _
      · exact answers_vmFail s _
    · exact answers_vmFail s _

theorem execOpCheckSig_answers (hv : s.vm = some v) : Answers (execOpCheckSig s) :=
  withVm_answers hv <| by
    split
    · split
      · exact answers_vmFail s _
      · exact vmPush_answers _ _ _
    · exact answers_vmFail s _

/-- A script command answers a next state in an evaluation, well-formed or not (log entry 12). -/
theorem exec_script_answers {i : Instr} (hi : (scriptOf i).isSome = true) (hv : s.vm = some v) :
    Answers (exec i s) := by
  rcases exec_script_shape hi s with ⟨x, -, hx⟩ | ⟨-, hx⟩ | rfl | rfl | rfl | rfl
  · rw [hx]
    exact withVm_answers hv (vmPush_answers _ _ _)
  · rw [hx]
    exact withVm_answers hv (answers_vmFail s _)
  · exact execOpDup_answers hv
  · exact execOpHash160_answers hv
  · exact execOpEqualVerify_answers hv
  · exact execOpCheckSig_answers hv

end Script

/-- A word decodes to commands of the block alone (R106), so script commands come from a program only. -/
theorem commandOf_isSome_of_decodeCommand {w : Word} {i : Instr} (h : decodeCommand w = .ok i) :
    (commandOf i).isSome = true := by
  obtain ⟨-, henc⟩ := legalWordIsOneCommand w i h
  rw [commandOf, henc]
  rfl

/-- What the engine fetches to run came from a script in progress, or is the command in CMD (R54, R280). -/
theorem fetch_run_cases {s : State} {i : Instr} (h : fetch s = .run i) :
    (∃ v, s.vm = some v) ∨ decodeCommand s.cmd = .ok i := by
  unfold fetch at h
  split at h
  · exact .inl ⟨_, ‹_›⟩
  · split at h
    · cases h
      exact .inr ‹_›
    · cases h

/-- An instruction the engine fetched never meets the one stop of `exec`, a script command outside SCRIPT. -/
theorem exec_fetched_answers {s : State} {i : Instr} (h : fetch s = .run i) : Answers (exec i s) := by
  rcases fetch_run_cases h with ⟨v, hv⟩ | hdecode
  · rcases command_or_script i with hi | hi
    · exact exec_command_answers s hi
    · exact exec_script_answers hi hv
  · exact exec_command_answers s (commandOf_isSome_of_decodeCommand hdecode)

theorem engineStep_answers (s : State) : Answers (engineStep s) := by
  cases hb : s.status.busy with
  | false =>
    rw [engineStep_idle hb]
    exact answers_next s
  | true =>
    rw [engineStep_busy hb]
    cases hf : fetch s with
    | run i => exact exec_fetched_answers hf
    | illegal => exact answers_raise s _
    | scriptEnd v => exact answers_next _

/-- Settles O9: a host event always has a next state, and the engine runs a script command only with a script in
progress. -/
theorem stepNeverStops : Obligations.StepNeverStops := by
  intro s
  rcases step_cases s with hstep | ⟨e, rest, -, hstep⟩
  · rw [Safe, hstep]
    exact engineStep_answers s
  · exact ⟨_, hstep⟩

/-! ## Only a fault raises ERR (R334, R40)

Every other way a step of the engine ends leaves ERR as it stands, and acceptance cleared it (R42). -/

theorem fault_or_err_of_commandShape {i : Instr} {s t : State} (h : CommandShape i s t) :
    (∃ c ∈ faultRow i, Faulted s t c) ∨ t.status.err = s.status.err := by
  rcases h with h | ⟨⟨r, hfin⟩, -⟩ | ⟨n, rfl, -⟩ | ⟨-, ⟨r, rfl⟩ | ⟨prog, tx, rfl⟩⟩
  · exact .inl h
  · right
    rw [hfin]
  · exact .inr rfl
  · exact .inr rfl
  · exact .inr rfl

/-- A script command raises no fault: a failed evaluation is a verdict (44_script.md R281). -/
theorem err_of_scriptStep {s t : State} (h : ScriptStep s t) : t.status.err = s.status.err := by
  obtain ⟨v, -, ⟨r, rfl⟩ | ⟨stack, chk, rfl, -⟩⟩ := h
  · rfl
  · rfl

/-- An instruction faults with a code of its row of R331, or leaves ERR as it stands. -/
theorem exec_fault_or_err {i : Instr} {s t : State} (h : exec i s = .next t) :
    (∃ c ∈ faultRow i, Faulted s t c) ∨ t.status.err = s.status.err := by
  rcases command_or_script i with hi | hi
  · exact fault_or_err_of_commandShape (exec_command_cases hi h)
  · exact .inr (err_of_scriptStep (exec_script_step hi h))

theorem engineStep_fault_or_err {s t : State} (hb : s.status.busy = true) (h : engineStep s = .next t) :
    (∃ c, Faulted s t c) ∨ t.status.err = s.status.err := by
  rw [engineStep_busy hb] at h
  cases hf : fetch s with
  | run i =>
    rw [hf] at h
    rcases exec_fault_or_err h with ⟨c, -, hfault⟩ | herr
    · exact .inl ⟨c, hfault⟩
    · exact .inr herr
  | illegal =>
    rw [hf] at h
    exact .inl ⟨.illegal, (raise_next _ _ _).mp h⟩
  | scriptEnd v =>
    rw [hf] at h
    cases h
    exact .inr rfl

/-- Settles O14: a running command starts with ERR = 0, so a step that leaves ERR = 1 raised it by a fault. -/
theorem faultsPrecise : Obligations.FaultsPrecise := by
  have hraised : ∀ s t : State, s.status.busy = true → BusyClean s → t.status.err = true →
      t.status.err ≠ s.status.err := by
    intro s t hb hc ht hstands
    obtain ⟨-, herr, -⟩ := hc hb
    exact Bool.noConfusion (ht.symm.trans (hstands.trans herr))
  refine ⟨fun s t hb hc hq h ht => ?_, fun i s t hb hc h ht => ?_⟩
  · rw [step_eq_engineStep hb hq] at h
    exact (engineStep_fault_or_err hb h).resolve_right (hraised s t hb hc ht)
  · exact (exec_fault_or_err h).resolve_right (hraised s t hb hc ht)

/-! ## The faults of SIGHASH and SCRIPT (R332) -/

section Transaction
variable {s : State}

theorem checkedTx_of_bad_length (k : Tx → TxIn → Result)
    (h : txBufSize < s.txlen.toNat ∨ spkBufSize < s.spklen.toNat) : checkedTx s k = raise s .len := by
  unfold checkedTx
  split
  · rfl
  · rename_i htxlen
    exact if_pos (h.resolve_left htxlen)

theorem checkedTx_of_parse_none (k : Tx → TxIn → Result) (htxlen : s.txlen.toNat ≤ txBufSize)
    (hspklen : s.spklen.toNat ≤ spkBufSize) (htx : parseTx (txBytes s) = none) : checkedTx s k = raise s .parse := by
  simp only [checkedTx, if_neg (Nat.not_lt.mpr htxlen), if_neg (Nat.not_lt.mpr hspklen), htx]

theorem checkedTx_of_bad_index {tx : Tx} (k : Tx → TxIn → Result) (htxlen : s.txlen.toNat ≤ txBufSize)
    (hspklen : s.spklen.toNat ≤ spkBufSize) (htx : parseTx (txBytes s) = some tx)
    (hindex : tx.ins.length ≤ s.inidx.toNat) : checkedTx s k = raise s .index := by
  have hnone : tx.ins[s.inidx.toNat]? = none := List.getElem?_eq_none hindex
  simp only [checkedTx, if_neg (Nat.not_lt.mpr htxlen), if_neg (Nat.not_lt.mpr hspklen), htx, hnone]

/-- SIGHASH and SCRIPT begin with the same checks (R308, R287). -/
theorem exec_eq_checkedTx {rd : Fin 16} {i : Instr} (hi : i ∈ [Instr.sighash rd, .script]) (s : State) :
    ∃ k, exec i s = checkedTx s k := by
  rcases List.mem_pair.mp hi with rfl | rfl
  · exact ⟨_, rfl⟩
  · exact ⟨_, rfl⟩

end Transaction

/-- Settles O52, by the checks the two commands share, in their order. -/
theorem transactionFaults : Obligations.TransactionFaults := by
  intro s rd i hi
  obtain ⟨k, hchecks⟩ := exec_eq_checkedTx hi s
  rw [hchecks]
  refine ⟨fun hlen => ?_, fun htxlen hspklen => ⟨fun htx => ?_, fun tx htx hindex => ?_⟩⟩
  · rw [checkedTx_of_bad_length k hlen]
    exact raise_faulted s .len
  · rw [checkedTx_of_parse_none k htxlen hspklen htx]
    exact raise_faulted s .parse
  · rw [checkedTx_of_bad_index k htxlen hspklen htx hindex]
    exact raise_faulted s .index

end Sys2Proof.Machine

/-! # The reset input (70_reset_and_hazards.md R360, R361) -/

namespace Sys2Proof.Machine

/-! ## Accesses, the reset input asserted -/

theorem hostEvent_read_of_reset {s : State} (hr : s.resetLine = true) (off : BitVec 14) (width : Nat) :
    hostEvent s (.read off width) = { s with reads := 0 :: s.reads } :=
  if_pos hr

theorem hostEvent_write_of_reset {s : State} (hr : s.resetLine = true) (off : BitVec 14) (width : Nat) (v : Word) :
    hostEvent s (.write off width v) = s :=
  if_pos hr

/-! ## The control state the reset input leaves -/

section ApplyReset
variable (s : State)

@[simp] theorem applyReset_status : (applyReset s).status = StatusReg.reset := rfl
@[simp] theorem applyReset_cmd : (applyReset s).cmd = 0 := rfl
@[simp] theorem applyReset_doneie : (applyReset s).doneie = false := rfl
@[simp] theorem applyReset_errcmd : (applyReset s).errcmd = 0 := rfl
@[simp] theorem applyReset_txlen : (applyReset s).txlen = 0 := rfl
@[simp] theorem applyReset_inidx : (applyReset s).inidx = 0 := rfl
@[simp] theorem applyReset_spklen : (applyReset s).spklen = 0 := rfl
@[simp] theorem applyReset_vmstat : (applyReset s).vmstat = 0 := rfl
@[simp] theorem applyReset_vm : (applyReset s).vm = none := rfl
@[simp] theorem applyReset_nonce : (applyReset s).nonce = none := rfl
@[simp] theorem applyReset_resetLine : (applyReset s).resetLine = true := rfl

/-- STATUS reads 0 after reset (R53). -/
theorem statusWord_reset : statusWord StatusReg.reset = 0 := by decide

/-- IRQ falls with DONEIE, whatever was pending (R47, R361). -/
theorem irq_applyReset : irq (applyReset s) = false := by
  rw [irq, applyReset_doneie, Bool.false_and]

end ApplyReset

/-- Settles O25: `applyReset` reads nothing of the control state it replaces, and it leaves the reset input asserted,
where accesses are ignored. -/
theorem resetInput : Obligations.ResetInput := by
  intro s
  have hstatus : statusWord (applyReset s).status = 0 := by rw [applyReset_status, statusWord_reset]
  have hline : (applyReset s).resetLine = true := applyReset_resetLine s
  exact ⟨applyReset s, rfl, hstatus, applyReset_cmd s, applyReset_doneie s, applyReset_errcmd s, applyReset_txlen s,
    applyReset_inidx s, applyReset_spklen s, applyReset_vmstat s, applyReset_vm s, applyReset_nonce s,
    irq_applyReset s, hline, hostEvent_write_of_reset hline, hostEvent_read_of_reset hline, rfl⟩

end Sys2Proof.Machine

/-! # The instruction placed for the engine to fetch (30_encoding.md section 1; log entries 10 and 18) -/

namespace Sys2Proof.Machine

/-! ## The placed state -/

section Placed
variable (s : State)

theorem withFetchWord_script {nbits : Nat} (hn : nbits ≤ 8) (w : Nat) :
    s.withFetchWord nbits w = placeScript s (decodeTableWord nbits w).toList :=
  if_pos hn

theorem withFetchWord_command {nbits : Nat} (hn : ¬ nbits ≤ 8) (w : Nat) :
    s.withFetchWord nbits w = placeCommand s (BitVec.ofNat 32 w) :=
  if_neg hn

@[simp] theorem placeCommand_busy (w : Word) : (placeCommand s w).status.busy = true := rfl
@[simp] theorem placeCommand_bus (w : Word) : (placeCommand s w).bus = [] := rfl
@[simp] theorem placeCommand_vm (w : Word) : (placeCommand s w).vm = none := rfl
@[simp] theorem placeCommand_cmd (w : Word) : (placeCommand s w).cmd = w := rfl

@[simp] theorem placeScript_busy (prog : List Instr) : (placeScript s prog).status.busy = true := rfl
@[simp] theorem placeScript_bus (prog : List Instr) : (placeScript s prog).bus = [] := rfl
@[simp] theorem placeScript_vm (prog : List Instr) :
    (placeScript s prog).vm = some (vmStart prog ((parseTx (txBytes s)).getD emptyTx)) := rfl

/-- The engine is BUSY in a placed state, whatever the bits. -/
theorem withFetchWord_busy (nbits w : Nat) : (s.withFetchWord nbits w).status.busy = true := by
  by_cases hn : nbits ≤ 8
  · rw [withFetchWord_script s hn, placeScript_busy]
  · rw [withFetchWord_command s hn, placeCommand_busy]

/-- No host event is left in a placed state, so none can land before the fetch. -/
theorem withFetchWord_bus (nbits w : Nat) : (s.withFetchWord nbits w).bus = [] := by
  by_cases hn : nbits ≤ 8
  · rw [withFetchWord_script s hn, placeScript_bus]
  · rw [withFetchWord_command s hn, placeCommand_bus]

theorem withFetchWord_quiet (nbits w : Nat) : Quiet (s.withFetchWord nbits w) :=
  quiet_of_no_events (withFetchWord_bus s nbits w)

end Placed

/-! ## What the engine fetches there -/

/-- A row of more than 8 bits is a command word: its instruction is what CMD decodes to. -/
theorem decodeCommand_of_decodeTableWord {nbits w : Nat} {i : Instr} (hn : ¬ nbits ≤ 8)
    (h : decodeTableWord nbits w = some i) : decodeCommand (BitVec.ofNat 32 w) = .ok i := by
  rw [decodeTableWord, if_neg hn] at h
  cases hd : decodeCommand (BitVec.ofNat 32 w) with
  | error e => simp [hd, Except.toOption] at h
  | ok j => simpa [hd, Except.toOption] using h

/-- The placed instruction is fetched as the first of a program just started, or from CMD. -/
theorem fetch_withFetchWord (s : State) {nbits w : Nat} {i : Instr} (h : decodeTableWord nbits w = some i) :
    fetch (s.withFetchWord nbits w) = .run i := by
  by_cases hn : nbits ≤ 8
  · rw [withFetchWord_script s hn, h]
    exact fetch_script (placeScript_vm s [i]) rfl
  · rw [withFetchWord_command s hn]
    exact fetch_command (placeCommand_vm s _) (decodeCommand_of_decodeTableWord hn h)

/-- Settles O8: the placed state is BUSY with no host event left, and its fetch finds the instruction. -/
theorem placedWordRuns : Obligations.PlacedWordRuns :=
  fun s nbits w _ h =>
    step_of_fetch_run (withFetchWord_busy s nbits w) (withFetchWord_quiet s nbits w) (fetch_withFetchWord s h)

end Sys2Proof.Machine
